-- ==== Sys2Proof/Word.lean ====
section
/-! DEFINITION. The words of RCDS: the byte of the bus and of the command word (00_scope.md R10: bit 7 is the most significant),
the 16-bit sample word (30_encoding.md R73) and the 17-bit response data (30_encoding.md R79). -/

namespace Sys2Proof

/-- A byte; bit 7 is its most significant bit (R10). -/
abbrev Byte := BitVec 8

/-- The 16-bit wire word of a sample (R73). -/
abbrev SampleWord := BitVec 16

/-- `rsp_data[16:0]` (R79). -/
abbrev RspData := BitVec 17

end Sys2Proof
end

