-- ==== Sys2Proof/Syntax.lean ====
section
/-! DEFINITION. What RCDS can be told to do: one constructor of `Instr` for each row of spec/opcode_table.json (the eleven host
commands of 30_encoding.md R76, and the codec functions ENCODE and DECODE, R8, R85, R88), the enumerations of the configuration
fields (10_state.md R15 to R21), and the fields of a command word (format H, R75). Operands are the enumerators themselves, as
R75 and R33 allow ("a model may equally take the decoded `Command`"), so every `Instr` is well-formed by construction; the checks
on raw words are in WellFormed.lean. DESIGN CHOICE (entry 11), safe. -/

namespace Sys2Proof

/-- `channel` (R16, R34): channel k has index k - 1. -/
inductive Channel where
  | ch1 | ch2 | ch3 | ch4
deriving DecidableEq, Repr

/-- `conversionMode` (R17). -/
inductive ConversionMode where
  | oneShot | continuous
deriving DecidableEq, Repr

/-- `sampleSetting` (R18): (240 Hz, 12 bit), (60 Hz, 14 bit), (15 Hz, 16 bit). -/
inductive SampleSetting where
  | hz240bits12 | hz60bits14 | hz15bits16
deriving DecidableEq, Repr

/-- `pgaGain` (R19): gains 1, 2, 4, 8. -/
inductive PgaGain where
  | x1 | x2 | x4 | x8
deriving DecidableEq, Repr

/-- `dataStatus` (R20). -/
inductive DataStatus where
  | updated | notUpdated
deriving DecidableEq, Repr

/-- `measurementTrigger` (R21). -/
inductive TriggerIntent where
  | none | trigger
deriving DecidableEq, Repr

/-- The operations: one constructor per row of spec/opcode_table.json. -/
inductive Instr where
  /-- INIT (R99). -/
  | init
  /-- READ_SAMPLE (R100). -/
  | readSample
  /-- SET_CHANNEL (R106). -/
  | setChannel (ch : Channel)
  /-- SET_MODE (R107). -/
  | setMode (m : ConversionMode)
  /-- SET_SAMPLE (R108). -/
  | setSample (ss : SampleSetting)
  /-- SET_PGA (R109). -/
  | setPga (g : PgaGain)
  /-- GET_CHANNEL (R114). -/
  | getChannel
  /-- GET_MODE (R115). -/
  | getMode
  /-- GET_SAMPLE (R116). -/
  | getSample
  /-- GET_PGA (R117). -/
  | getPga
  /-- TRIGGER (R110). -/
  | trigger
  /-- ENCODE on the codec port (R8, R85); no command word (R76). -/
  | codecEncode (t : TriggerIntent) (ch : Channel) (m : ConversionMode) (ss : SampleSetting) (g : PgaGain)
  /-- DECODE on the codec port (R8, R88); no command word (R76). -/
  | codecDecode (b : Byte)
deriving DecidableEq, Repr

/-- Is it one of the eleven commands of the host port (R76)? The codec functions are not. -/
def Instr.isHostCommand : Instr → Bool
  | .codecEncode _ _ _ _ _ => false
  | .codecDecode _ => false
  | .init => true
  | .readSample => true
  | .setChannel _ => true
  | .setMode _ => true
  | .setSample _ => true
  | .setPga _ => true
  | .getChannel => true
  | .getMode => true
  | .getSample => true
  | .getPga => true
  | .trigger => true

/-- The three fields of a command word (format H, R75). -/
structure CommandFields where
  op  : BitVec 4
  z   : BitVec 2
  arg : BitVec 2
deriving DecidableEq, Repr

/-- Why a command word is illegal: the classes of R77. The names are the model's; the response is `IllegalCommand` for each. -/
inductive IllegalWord where
  /-- `op` in 0xB to 0xF. -/
  | reservedOp
  /-- `z` is not 00. -/
  | nonzeroZ
  /-- A command without operand whose `arg` is not 0. -/
  | nonzeroArg
  /-- SET_MODE with `arg[1]` = 1. -/
  | modeArg
  /-- SET_SAMPLE of the reserved sample setting 3. -/
  | reservedSample
deriving DecidableEq, Repr

end Sys2Proof
end

