-- ==== Sys2Proof/Machine/Operands.lean ====
section
/-! DEFINITION. Every operand and field encoding (30_encoding.md R67 to R71, R83, 10_state.md R33, R36): the number of each
enumerator, the same on the wire, in the stored field and in `arg` of a command word, and the way back. -/

namespace Sys2Proof

/-- R67, R34: channel index 0 to 3. -/
def Channel.index : Channel → BitVec 2
  | .ch1 => 0
  | .ch2 => 1
  | .ch3 => 2
  | .ch4 => 3

/-- R67: "direct index", all four values in use. -/
def Channel.ofIndex (i : BitVec 2) : Channel :=
  match i.toNat with
  | 0 => .ch1
  | 1 => .ch2
  | 2 => .ch3
  | _ => .ch4

/-- R68: 1 is `Continuous`. -/
def ConversionMode.bit : ConversionMode → BitVec 1
  | .oneShot => 0
  | .continuous => 1

/-- R68. -/
def ConversionMode.ofBit (b : Bool) : ConversionMode :=
  match b with
  | true => .continuous
  | false => .oneShot

/-- R69, format C: 0, 1, 2; 3 is never produced. -/
def SampleSetting.index : SampleSetting → BitVec 2
  | .hz240bits12 => 0
  | .hz60bits14 => 1
  | .hz15bits16 => 2

/-- R69, format S: a received 3 is read as 2. -/
def SampleSetting.ofWire (i : BitVec 2) : SampleSetting :=
  match i.toNat with
  | 0 => .hz240bits12
  | 1 => .hz60bits14
  | _ => .hz15bits16

/-- The resolution N of R36 and R91. -/
def SampleSetting.resolution : SampleSetting → Nat
  | .hz240bits12 => 12
  | .hz60bits14 => 14
  | .hz15bits16 => 16

/-- The rate in Hz (R36); no rule depends on it (R163). -/
def SampleSetting.rate : SampleSetting → Nat
  | .hz240bits12 => 240
  | .hz60bits14 => 60
  | .hz15bits16 => 15

/-- R70: gain index 0 to 3. -/
def PgaGain.index : PgaGain → BitVec 2
  | .x1 => 0
  | .x2 => 1
  | .x4 => 2
  | .x8 => 3

/-- R70: the last pattern is `PGA_8X`'s own. -/
def PgaGain.ofIndex (i : BitVec 2) : PgaGain :=
  match i.toNat with
  | 0 => .x1
  | 1 => .x2
  | 2 => .x4
  | _ => .x8

/-- R19, R70: the multiplier, applied by the device and never by RCDS. -/
def PgaGain.multiplier : PgaGain → Nat
  | .x1 => 1
  | .x2 => 2
  | .x4 => 4
  | .x8 => 8

/-- R71: 1 is `Trigger`. -/
def TriggerIntent.bit : TriggerIntent → BitVec 1
  | .none => 0
  | .trigger => 1

/-- R83: a command without operand needs `arg` = 0. -/
def noOperand (arg : BitVec 2) (i : Instr) : Except IllegalWord Instr :=
  if arg = 0#2 then .ok i else .error .nonzeroArg

/-- R83: the operand of SET_MODE is `arg[0]`, and `arg[1]` must be 0. -/
def modeOperand (arg : BitVec 2) : Except IllegalWord ConversionMode :=
  if arg.getLsbD 1 then .error .modeArg else .ok (.ofBit (arg.getLsbD 0))

/-- R83: the operand of SET_SAMPLE is the sample-setting index, 3 illegal. -/
def sampleOperand (arg : BitVec 2) : Except IllegalWord SampleSetting :=
  if arg = 3#2 then .error .reservedSample else .ok (.ofWire arg)

end Sys2Proof
end

