-- ==== Sys2Proof/Decode.lean ====
section
/-! DEFINITION. The decoder of command words (30_encoding.md R75 to R77, R83), total on all 256 words, illegal words rejected by
name, and the encoder written from the same table. The codec functions have no command word (R76), so `encode` gives none for
them and no word decodes to them (entry 7). -/

namespace Sys2Proof

/-- Format H: `op` = bits 7:4, `z` = bits 3:2, `arg` = bits 1:0 (R75). -/
def commandFields (w : Byte) : CommandFields :=
  { op := w.extractLsb' 4 4, z := w.extractLsb' 2 2, arg := w.extractLsb' 0 2 }

/-- R76 on an `op` whose `z` is 00. -/
def decodeOp (op : BitVec 4) (arg : BitVec 2) : Except IllegalWord Instr :=
  match op.toNat with
  | 0x0 => noOperand arg .init
  | 0x1 => noOperand arg .readSample
  | 0x2 => .ok (.setChannel (.ofIndex arg))
  | 0x3 => (modeOperand arg).map .setMode
  | 0x4 => (sampleOperand arg).map .setSample
  | 0x5 => .ok (.setPga (.ofIndex arg))
  | 0x6 => noOperand arg .getChannel
  | 0x7 => noOperand arg .getMode
  | 0x8 => noOperand arg .getSample
  | 0x9 => noOperand arg .getPga
  | 0xA => noOperand arg .trigger
  | _ => .error .reservedOp

/-- The command a word stands for, or why it is illegal; a function of the eight bits alone (R75). -/
def decode (w : Byte) : Except IllegalWord Instr :=
  if (commandFields w).z = 0#2 then decodeOp (commandFields w).op (commandFields w).arg else .error .nonzeroZ

/-- The word `op ‖ 00 ‖ arg` (R75). -/
def commandWord (op : BitVec 4) (arg : BitVec 2) : Byte := (op ++ 0#2 ++ arg : BitVec (4 + 2 + 2))

/-- The word of a command (R76, R83); the codec functions have none. -/
def encode : Instr → Option Byte
  | .init => some (commandWord 0x0 0)
  | .readSample => some (commandWord 0x1 0)
  | .setChannel ch => some (commandWord 0x2 ch.index)
  | .setMode m => some (commandWord 0x3 (m.bit.setWidth 2))
  | .setSample ss => some (commandWord 0x4 ss.index)
  | .setPga g => some (commandWord 0x5 g.index)
  | .getChannel => some (commandWord 0x6 0)
  | .getMode => some (commandWord 0x7 0)
  | .getSample => some (commandWord 0x8 0)
  | .getPga => some (commandWord 0x9 0)
  | .trigger => some (commandWord 0xA 0)
  | .codecEncode _ _ _ _ _ => none
  | .codecDecode _ => none

/-- One row of the opcode map: a word `w` selects it when `w & mask = pattern` (R76). -/
structure OpcodeRow where
  mnemonic : String
  pattern  : Byte
  mask     : Byte
deriving DecidableEq, Repr

/-- The rows of R76's map, transcribed; `arg` ≠ 3 in SET_SAMPLE's row is beside it (R77). -/
def opcodeRows : List OpcodeRow :=
  [⟨"INIT", 0x00, 0xFF⟩, ⟨"READ_SAMPLE", 0x10, 0xFF⟩, ⟨"SET_CHANNEL", 0x20, 0xFC⟩, ⟨"SET_MODE", 0x30, 0xFE⟩,
   ⟨"SET_SAMPLE", 0x40, 0xFC⟩, ⟨"SET_PGA", 0x50, 0xFC⟩] ++
  [⟨"GET_CHANNEL", 0x60, 0xFF⟩, ⟨"GET_MODE", 0x70, 0xFF⟩, ⟨"GET_SAMPLE", 0x80, 0xFF⟩, ⟨"GET_PGA", 0x90, 0xFF⟩,
   ⟨"TRIGGER", 0xA0, 0xFF⟩]

/-- R76's test. -/
def OpcodeRow.selects (r : OpcodeRow) (w : Byte) : Bool := w &&& r.mask == r.pattern

/-- The mnemonic of an operation, as the opcode map spells it (R76, R81). -/
def Instr.mnemonic : Instr → String
  | .init => "INIT"
  | .readSample => "READ_SAMPLE"
  | .setChannel _ => "SET_CHANNEL"
  | .setMode _ => "SET_MODE"
  | .setSample _ => "SET_SAMPLE"
  | .setPga _ => "SET_PGA"
  | .getChannel => "GET_CHANNEL"
  | .getMode => "GET_MODE"
  | .getSample => "GET_SAMPLE"
  | .getPga => "GET_PGA"
  | .trigger => "TRIGGER"
  | .codecEncode _ _ _ _ _ => "ENCODE"
  | .codecDecode _ => "DECODE"

/-- The operation the decoder reads from a table word of `nbits` bits with value `w`: a command word has eight bits (R75, R80),
those above `nbits` being 0, and no other length decodes. -/
def decodeTableWord (nbits w : Nat) : Option Instr :=
  if nbits ≤ 8 ∧ w < 256 then
    match decode (BitVec.ofNat 8 w) with
    | .ok i => some i
    | .error _ => none
  else none

end Sys2Proof
end

