-- ==== Sys2Proof/Config.lean ====
section
/-! DEFINITION. What is fixed for one RCDS (00_scope.md R9): the numeric parameters the spec gives, the two it leaves OPEN
(`BUS_ADDR`, `NARROW`, opaque here), the shapes of the transport's answers (R7, R41), and the free values. -/

namespace Sys2Proof

/-- The two values of the OPEN parameter `NARROW` (R9, R91, decision D7). -/
inductive Narrow where
  | full16
  | toResolution
deriving DecidableEq, Repr, Inhabited

/-- The transport's answer to a bus read: exactly three bytes in the order received, or `Err` without detail (R38, R41). -/
inductive ReadAnswer where
  | ok (b0 b1 b2 : Byte)
  | err
deriving DecidableEq, Repr, Inhabited

/-- The transport's answer to a bus write (R38, R39). -/
inductive WriteAnswer where
  | ok
  | err
deriving DecidableEq, Repr, Inhabited

/-- The address of a bus request, by its name in the spec: there is only the one fixed address `BUS_ADDR` (R48). -/
inductive BusAddr where
  | busAddr
deriving DecidableEq, Repr, Inhabited

/-- The value of `BUS_ADDR`, OPEN (R9, R48, D13): nothing computes with it. DESIGN CHOICE (entry 2), safe. -/
opaque Config.busAddrValue : Nat

/-- `NARROW`, OPEN (R9, R91, D7). DESIGN CHOICE (entry 3), safe: a claim holds for both values. -/
opaque Config.narrow : Narrow

/-- Free value: the answer to a bus read that `State.readAnswers` does not fix (R5, R14). DESIGN CHOICE (entry 4), safe. -/
opaque Config.freeReadAnswer : Nat → ReadAnswer

/-- Free value: the answer to a bus write that `State.writeAnswers` does not fix (R5, R14). DESIGN CHOICE (entry 4), safe. -/
opaque Config.freeWriteAnswer : Nat → WriteAnswer

/-- Free value: what stands on `rsp_data` when the n-th response is an error (R79, U14: any value). DESIGN CHOICE (entry 8), safe. -/
opaque Config.freeRspData : Nat → RspData

/-- What the transport is handed as the address of a request (R48: the constant, unchanged). -/
def BusAddr.value : BusAddr → Nat
  | .busAddr => Config.busAddrValue

/-- `RD_TIMEOUT`, in the source's "time-units" (R9, R51, D14). -/
def Config.rdTimeout : Nat := 1500

/-- `WR_TIMEOUT` (R9, R51, D14). -/
def Config.wrTimeout : Nat := 500

/-- `READ_LEN` (R9, R40). -/
def Config.readLen : Nat := 3

end Sys2Proof
end

