-- ==== Sys2Proof/Machine/State.lean ====
section
/-! DEFINITION. The state of RCDS (10_state.md R15) and, beside it, the model's own fields that carry a step's inputs and outputs
(00_scope.md R12), with the state after reset (10_state.md R31). All of it is plain data. -/

namespace Sys2Proof.Machine

/-- The shadow configuration register CFG, six fields (R15 to R21). -/
structure ShadowConfig where
  ch   : Channel
  mode : ConversionMode
  ss   : SampleSetting
  pga  : PgaGain
  ds   : DataStatus
  trig : TriggerIntent
deriving DecidableEq, Repr

/-- The session-state register SSTATE (R22). -/
inductive SessionState where
  | uninitialized | initialized | failed
deriving DecidableEq, Repr

/-- The outputs of DECODE: the configuration fields but the trigger (R88). -/
structure StatusFields where
  ds   : DataStatus
  ch   : Channel
  mode : ConversionMode
  ss   : SampleSetting
  pga  : PgaGain
deriving DecidableEq, Repr

/-- The error kinds (R124). `protocolError` is reserved and never raised (R129). -/
inductive ErrorKind where
  | transportReadError | transportWriteError | notInitialized | protocolError | illegalCommand
deriving DecidableEq, Repr

/-- A response on the host port: data only when it is `Ok` (R79, "with no data in the error case"). -/
inductive Response where
  | ok (data : RspData)
  | error (kind : ErrorKind)
deriving DecidableEq, Repr

/-- A request on the bus port: the transport's contract (R7, R38). -/
inductive BusRequest where
  | write (addr : BusAddr) (bytes : List Byte) (timeout : Nat)
  | read (addr : BusAddr) (byteCount timeout : Nat)
deriving DecidableEq, Repr

/-- What can arrive at RCDS's inputs. -/
inductive PortInput where
  /-- The host presents a command word (R6). -/
  | command (w : Byte)
  /-- The reset input is asserted between commands (R146). -/
  | reset
  /-- A command word is presented and the reset input is asserted before its response is given; `issued` says whether its bus
  request, if it has one, had gone out (R148). -/
  | resetDuring (w : Byte) (issued : Bool)
  /-- Operands on ENCODE's port (R8, R85). -/
  | encode (t : TriggerIntent) (ch : Channel) (m : ConversionMode) (ss : SampleSetting) (g : PgaGain)
  /-- An operand on DECODE's port (R8, R88). -/
  | decode (b : Byte)
  /-- Operands on SAMPLE_VALUE's port (R8, R91). -/
  | sampleValue (b0 b1 : Byte) (ss : SampleSetting)
deriving DecidableEq, Repr

/-- What a stand-alone codec port gives (R8). -/
inductive CodecOutput where
  | controlByte (b : Byte)
  | statusFields (f : StatusFields)
  | sample (value : Int)
deriving DecidableEq, Repr

/-- A step of RCDS never stops with a fault: "No error stops RCDS from accepting further commands" (R132). No constructor. -/
inductive Fault where
deriving DecidableEq, Repr

/-- Why an operation would have no meaning in the model. -/
inductive Refusal where
  /-- Raised by an arm of `exec` that has no meaning yet; none is left. Safe. -/
  | notModelled (mnemonic : String)
deriving DecidableEq, Repr

/-- The state. The first three fields are the spec's (R15); the others are the model's own. -/
structure State where
  /-- CFG (R15). -/
  cfg : ShadowConfig
  /-- SSTATE (R22). -/
  sstate : SessionState
  /-- BUSY (R27). -/
  busy : Bool
  /-- What is still to arrive at the inputs, oldest first (entry 5). -/
  inputs : List PortInput
  /-- What the transport will answer to the coming bus reads, first answer first (R12; entry 4). -/
  readAnswers : List ReadAnswer
  /-- What the transport will answer to the coming bus writes, first answer first (R12; entry 4). -/
  writeAnswers : List WriteAnswer
  /-- How many free answers have been drawn (entry 4). -/
  draws : Nat
  /-- Every bus request issued, oldest first: the concatenated `BusTrace`s of R12 (entry 6). -/
  trace : List BusRequest
  /-- Every response given, oldest first (R12; entry 6). -/
  responses : List Response
  /-- Every value the stand-alone codec ports gave, oldest first (R8; entry 7). -/
  codecOut : List CodecOutput
deriving DecidableEq, Repr

/-- R31: `SSTATE = Uninitialized`, `BUSY = 0`, `CFG.TRIG = None`. The other five CFG fields are unspecified there; their all-zero
patterns here are a DESIGN CHOICE (entry 1), unsafe in principle and shown unobservable by a statement (R32). -/
def State.reset : State where
  cfg := { ch := .ch1, mode := .oneShot, ss := .hz240bits12, pga := .x1, ds := .updated, trig := .none }
  sstate := .uninitialized
  busy := false
  inputs := []
  readAnswers := []
  writeAnswers := []
  draws := 0
  trace := []
  responses := []
  codecOut := []

end Sys2Proof.Machine
end

