-- ==== Sys2Proof/Machine/Flags.lean ====
section
/-! DEFINITION. The one status flag, CFG.DS (10_state.md R20, R29): its bit in a status byte (30_encoding.md R72, 0 is `Updated`)
and its only update, a copy of bit 7 of a status byte received by a successful read. There are no condition codes. -/

namespace Sys2Proof

/-- R33, R72: `NotUpdated` is 1. -/
def DataStatus.bit : DataStatus → BitVec 1
  | .updated => 0
  | .notUpdated => 1

/-- R72: "0 → `Updated`, 1 → `NotUpdated`". -/
def DataStatus.ofBit (b : Bool) : DataStatus :=
  match b with
  | true => .notUpdated
  | false => .updated

/-- The flag a status byte reports: its bit 7 (R29, R72). -/
def dataStatusOf (b : Byte) : DataStatus := .ofBit (b.getLsbD 7)

end Sys2Proof
end

