-- ==== Sys2Proof/Machine/Codec.lean ====
section
/-! DEFINITION. The register codec as pure functions of values (40_codec.md R85 to R97): ENCODE, DECODE, SAMPLE_VALUE,
DECODE_FRAME. -/

namespace Sys2Proof.Machine

/-- ENCODE: `b[7] = trig, b[6:5] = ch, b[4] = mode, b[3:2] = ss, b[1:0] = pga` (R85, format C of R64). -/
def encodeByte (t : TriggerIntent) (ch : Channel) (m : ConversionMode) (ss : SampleSetting) (g : PgaGain) : Byte :=
  (t.bit ++ ch.index ++ m.bit ++ ss.index ++ g.index : BitVec (1 + 2 + 1 + 2 + 2))

/-- DECODE, total over all 256 bytes (R88, R89, format S of R65). -/
def decodeByte (b : Byte) : StatusFields where
  ds := dataStatusOf b
  ch := .ofIndex (b.extractLsb' 5 2)
  mode := .ofBit (b.getLsbD 4)
  ss := .ofWire (b.extractLsb' 2 2)
  pga := .ofIndex (b.extractLsb' 0 2)

/-- The wire word `b0 ‖ b1`, big-endian (R43, R73). -/
def sampleWord (b0 b1 : Byte) : SampleWord := (b0 ++ b1 : BitVec (8 + 8))

/-- `sext_N(v)` of R11: two's complement, as R11 defines it (entry 13). -/
def sext (n v : Nat) : Int := if v < 2 ^ (n - 1) then (v : Int) else (v : Int) - 2 ^ n

/-- SAMPLE_VALUE with the OPEN parameter as an argument (R91). -/
def sampleValue (narrow : Narrow) (b0 b1 : Byte) (ss : SampleSetting) : Int :=
  match narrow with
  | .full16 => sext 16 (sampleWord b0 b1).toNat
  | .toResolution => sext ss.resolution ((sampleWord b0 b1).toNat % 2 ^ ss.resolution)

/-- SAMPLE_VALUE under this machine's `NARROW`. It consults the parameter only where the two readings differ (R92(c)), so that it
evaluates on every frame a conforming device sends; it equals `sampleValue Config.narrow` (Laws/Codec.lean, entry 3). -/
def sampleValueHere (b0 b1 : Byte) (ss : SampleSetting) : Int :=
  if sampleValue .full16 b0 b1 ss = sampleValue .toResolution b0 b1 ss then sampleValue .full16 b0 b1 ss
  else sampleValue Config.narrow b0 b1 ss

/-- DECODE_FRAME: the sample setting is that of THIS frame's status byte (R95, D8). -/
def decodeFrame (b0 b1 b2 : Byte) : StatusFields × Int :=
  (decodeByte b2, sampleValueHere b0 b1 (decodeByte b2).ss)

/-- The data of a READ_SAMPLE response: `rsp_data[16]` = status, `rsp_data[15:0]` = value mod 2^16 (R79, R100). -/
def sampleData (ds : DataStatus) (value : Int) : RspData := (ds.bit ++ BitVec.ofInt 16 value : BitVec (1 + 16))

end Sys2Proof.Machine
end

