-- ==== Sys2Proof/Machine/Ops.lean ====
section
/-! DEFINITION. The operations the commands share: the handshake and the response (10_state.md R27, 00_scope.md R6, R11), the
giving of an error response as the one "trap entry" of RCDS (60_exceptions.md R135), the two bus transactions (20_memory.md R39,
R40), PUSH (42 R104), REFRESH (41 R98) and the session-state check (60 R127). -/

namespace Sys2Proof.Machine

/-- A command is accepted: BUSY becomes 1 (R27). -/
def accept (s : State) : State := { s with busy := true }

/-- The one response of a command; BUSY becomes 0 (R6, R27). -/
def respond (r : Response) (s : State) : State := { s with busy := false, responses := s.responses ++ [r] }

/-- `respond Ok(d)` (R11). -/
def respondOk (d : RspData) (s : State) : State := respond (.ok d) s

/-- `raise E` (R11): the error response. Nothing is saved, no mode changes, control goes nowhere; what was written stays written
(R135). There is no return from it (R137). -/
def raiseError (k : ErrorKind) (s : State) : State := respond (.error k) s

/-- The answer the transport gives to the next bus read: fixed by the state's list, else free (R5, R14; entry 4). -/
def State.readAnswer (s : State) : ReadAnswer :=
  match s.readAnswers with
  | a :: _ => a
  | [] => Config.freeReadAnswer s.draws

/-- The answer the transport gives to the next bus write (R5, R14; entry 4). -/
def State.writeAnswer (s : State) : WriteAnswer :=
  match s.writeAnswers with
  | a :: _ => a
  | [] => Config.freeWriteAnswer s.draws

/-- `MemRead(addr, n)`: the request goes on the bus with RD_TIMEOUT, and its answer is taken (R11, R40). -/
def memRead (addr : BusAddr) (n : Nat) (s : State) : ReadAnswer × State :=
  (s.readAnswer,
   { s with
     trace := s.trace ++ [.read addr n Config.rdTimeout]
     readAnswers := s.readAnswers.tail
     draws := if s.readAnswers.isEmpty then s.draws + 1 else s.draws })

/-- `MemWrite(addr, 1, b)`: the request goes on the bus with WR_TIMEOUT, and its answer is taken (R11, R39). -/
def memWrite (addr : BusAddr) (b : Byte) (s : State) : WriteAnswer × State :=
  (s.writeAnswer,
   { s with
     trace := s.trace ++ [.write addr [b] Config.wrTimeout]
     writeAnswers := s.writeAnswers.tail
     draws := if s.writeAnswers.isEmpty then s.draws + 1 else s.draws })

/-- The control byte of a shadow configuration: ENCODE of five of its fields, not of DS (R85, R104). -/
def controlByte (c : ShadowConfig) : Byte := encodeByte c.trig c.ch c.mode c.ss c.pga

/-- PUSH: ENCODE of the shadow, then one bus write of the one byte (R104). -/
def push (s : State) : WriteAnswer × State := memWrite .busAddr (controlByte s.cfg) s

/-- The read frame: one bus read of three bytes (R40). -/
def readFrame (s : State) : ReadAnswer × State := memRead .busAddr Config.readLen s

/-- A shadow configuration with the five fields of a status byte; TRIG is kept (R90, R98). -/
def ShadowConfig.refreshed (f : StatusFields) (c : ShadowConfig) : ShadowConfig :=
  { c with ds := f.ds, ch := f.ch, mode := f.mode, ss := f.ss, pga := f.pga }

/-- A write of the shadow configuration register (R11: it takes effect at once). -/
def writeCfg (f : ShadowConfig → ShadowConfig) (s : State) : State := { s with cfg := f s.cfg }

/-- REFRESH(b2): all five fields together (R98). -/
def refresh (b2 : Byte) (s : State) : State := writeCfg (ShadowConfig.refreshed (decodeByte b2)) s

/-- `CFG.TRIG <- t`. -/
def setTrig (t : TriggerIntent) (s : State) : State := writeCfg (fun c => { c with trig := t }) s

/-- `SSTATE <- x`. -/
def setSession (x : SessionState) (s : State) : State := { s with sstate := x }

/-- The first line of every command but INIT: `if SSTATE ≠ Initialized then raise NotInitialized`, before any other effect (R127). -/
def whenInitialized (body : State → State) (s : State) : State :=
  if s.sstate = .initialized then body s else raiseError .notInitialized s

/-- The last two lines of the writing commands: `TransportWriteError` on `Err`, else `Ok(0)` (R106 to R110). -/
def reportWrite (a : WriteAnswer) (s : State) : State :=
  match a with
  | .ok => respondOk 0 s
  | .err => raiseError .transportWriteError s

/-- PUSH and its report (R106 to R109). -/
def pushAndReport (s : State) : State := reportWrite (push s).1 (push s).2

/-- The whole execution of one accepted command, as one step (R12). -/
def runCommand (body : State → State) (s : State) : Host.Outcome State Fault Refusal := .next (body (accept s))

/-- A value comes out of a stand-alone codec port; RCDS's registers take no part in it (R8, R97). -/
def codecEmit (o : CodecOutput) (s : State) : State := { s with codecOut := s.codecOut ++ [o] }

/-- The reset input: every register at its value of R31 (R146). The bus, and what stands on the model's own fields, are not
touched (R149). -/
def resetRegisters (s : State) : State :=
  { s with cfg := State.reset.cfg, sstate := State.reset.sstate, busy := State.reset.busy }

end Sys2Proof.Machine
end

