-- ==== Sys2Proof/Machine/CodecPorts.lean ====
section
/-! DEFINITION. The codec functions evaluated on their own ports (00_scope.md R8, 40_codec.md R97): in any session state, no
register read or written, no bus request, no response. -/

namespace Sys2Proof.Machine

/-- ENCODE (R85). -/
def execCodecEncode (t : TriggerIntent) (ch : Channel) (m : ConversionMode) (ss : SampleSetting) (g : PgaGain) (s : State) :
    Host.Outcome State Fault Refusal :=
  .next (codecEmit (.controlByte (encodeByte t ch m ss g)) s)

/-- DECODE (R88). -/
def execCodecDecode (b : Byte) (s : State) : Host.Outcome State Fault Refusal :=
  .next (codecEmit (.statusFields (decodeByte b)) s)

/-- SAMPLE_VALUE (R91); it is no row of the opcode table. -/
def evalSampleValue (b0 b1 : Byte) (ss : SampleSetting) (s : State) : State :=
  codecEmit (.sample (sampleValueHere b0 b1 ss)) s

end Sys2Proof.Machine
end

