-- ==== Sys2Proof/Machine/SessionGet.lean ====
section
/-! DEFINITION. The four getters (43_session_getters.md R113 to R117): the shadow's field in `rsp_data[1:0]`, the other bits 0, no
bus request, no state written. -/

namespace Sys2Proof.Machine

/-- GET_CHANNEL (R114). -/
def execGetChannel (s : State) : Host.Outcome State Fault Refusal :=
  runCommand (whenInitialized fun s => respondOk (s.cfg.ch.index.setWidth 17) s) s

/-- GET_MODE (R115). -/
def execGetMode (s : State) : Host.Outcome State Fault Refusal :=
  runCommand (whenInitialized fun s => respondOk (s.cfg.mode.bit.setWidth 17) s) s

/-- GET_SAMPLE (R116). -/
def execGetSample (s : State) : Host.Outcome State Fault Refusal :=
  runCommand (whenInitialized fun s => respondOk (s.cfg.ss.index.setWidth 17) s) s

/-- GET_PGA (R117): the gain index, not the multiplier. -/
def execGetPga (s : State) : Host.Outcome State Fault Refusal :=
  runCommand (whenInitialized fun s => respondOk (s.cfg.pga.index.setWidth 17) s) s

end Sys2Proof.Machine
end

