-- ==== Sys2Proof/Machine/SessionRead.lean ====
section
/-! DEFINITION. The commands that read the bus: INIT and READ_SAMPLE (41_session_read_ops.md R99 to R103). -/

namespace Sys2Proof.Machine

/-- The failure path of INIT: `if SSTATE ≠ Initialized then SSTATE <- Failed` (R99). -/
def initFailed (s : State) : State := if s.sstate = .initialized then s else setSession .failed s

/-- INIT after its read (R99): b0 and b1 are discarded. -/
def initReport (a : ReadAnswer) (s : State) : State :=
  match a with
  | .ok _ _ b2 => respondOk 0 (setSession .initialized (refresh b2 s))
  | .err => raiseError .transportReadError (initFailed s)

/-- INIT (R99): the one command accepted in every session state. -/
def initBody (s : State) : State :=
  initReport (readFrame (setTrig .none s)).1 (readFrame (setTrig .none s)).2

/-- INIT. -/
def execInit (s : State) : Host.Outcome State Fault Refusal := runCommand initBody s

/-- READ_SAMPLE after its read (R100): on `Err` nothing changes (R103). The status returned is CFG.DS after the refresh. -/
def readSampleReport (a : ReadAnswer) (s : State) : State :=
  match a with
  | .ok b0 b1 b2 => respondOk (sampleData (refresh b2 s).cfg.ds (decodeFrame b0 b1 b2).2) (refresh b2 s)
  | .err => raiseError .transportReadError s

/-- READ_SAMPLE in a session that is initialized (R100). -/
def readSampleBody (s : State) : State := readSampleReport (readFrame s).1 (readFrame s).2

/-- READ_SAMPLE. -/
def execReadSample (s : State) : Host.Outcome State Fault Refusal := runCommand (whenInitialized readSampleBody) s

end Sys2Proof.Machine
end

