-- ==== Sys2Proof/Machine/SessionWrite.lean ====
section
/-! DEFINITION. The commands that write the bus: the four setters and TRIGGER (42_session_write_ops.md R104 to R112). Each sets
one shadow field, pushes the whole configuration byte and reports; nothing is rolled back (R105). -/

namespace Sys2Proof.Machine

/-- SET_CHANNEL (R106). -/
def execSetChannel (ch : Channel) (s : State) : Host.Outcome State Fault Refusal :=
  runCommand (whenInitialized fun s => pushAndReport (writeCfg (fun c => { c with ch := ch }) s)) s

/-- SET_MODE (R107). -/
def execSetMode (m : ConversionMode) (s : State) : Host.Outcome State Fault Refusal :=
  runCommand (whenInitialized fun s => pushAndReport (writeCfg (fun c => { c with mode := m }) s)) s

/-- SET_SAMPLE (R108). -/
def execSetSample (ss : SampleSetting) (s : State) : Host.Outcome State Fault Refusal :=
  runCommand (whenInitialized fun s => pushAndReport (writeCfg (fun c => { c with ss := ss }) s)) s

/-- SET_PGA (R109). -/
def execSetPga (g : PgaGain) (s : State) : Host.Outcome State Fault Refusal :=
  runCommand (whenInitialized fun s => pushAndReport (writeCfg (fun c => { c with pga := g }) s)) s

/-- TRIGGER in a session that is initialized: the pushed byte has bit 7 = 1, and TRIG is `None` again on both outcomes (R110). -/
def triggerBody (s : State) : State :=
  reportWrite (push (setTrig .trigger s)).1 (setTrig .none (push (setTrig .trigger s)).2)

/-- TRIGGER, in either mode: no mode check (R110, R111). -/
def execTrigger (s : State) : Host.Outcome State Fault Refusal := runCommand (whenInitialized triggerBody) s

end Sys2Proof.Machine
end

