-- ==== Sys2Proof/Machine/Dispatch.lean ====
section
/-! DEFINITION. One arm per constructor of `Instr` (00_scope.md R12: the whole execution of one operation is one step). -/

namespace Sys2Proof.Machine

def exec (i : Instr) (s : State) : Host.Outcome State Fault Refusal :=
  match i with
  | .init => Sys2Proof.Machine.execInit s
  | .readSample => Sys2Proof.Machine.execReadSample s
  | .setChannel ch => Sys2Proof.Machine.execSetChannel ch s
  | .setMode m => Sys2Proof.Machine.execSetMode m s
  | .setSample ss => Sys2Proof.Machine.execSetSample ss s
  | .setPga g => Sys2Proof.Machine.execSetPga g s
  | .getChannel => Sys2Proof.Machine.execGetChannel s
  | .getMode => Sys2Proof.Machine.execGetMode s
  | .getSample => Sys2Proof.Machine.execGetSample s
  | .getPga => Sys2Proof.Machine.execGetPga s
  | .trigger => Sys2Proof.Machine.execTrigger s
  | .codecEncode t ch m ss g => Sys2Proof.Machine.execCodecEncode t ch m ss g s
  | .codecDecode b => Sys2Proof.Machine.execCodecDecode b s

end Sys2Proof.Machine
end

