-- ==== Sys2Proof/Machine/Inputs.lean ====
section
/-! DEFINITION. What RCDS does with each thing that can arrive at its inputs: a command word (00_scope.md R6, 30_encoding.md R75,
R77), the reset input (70_reset_and_hazards.md R146, R148), operands on a codec port (R8). Step.lean only calls these. -/

namespace Sys2Proof.Machine

/-- An accepted word is decoded; an illegal one is answered `IllegalCommand`, with no other effect and before SSTATE is looked at
(R77, R130, R134). -/
def runWord (w : Byte) (s : State) : Host.Outcome State Fault Refusal :=
  match decode w with
  | .ok i => exec i s
  | .error _ => .next (raiseError .illegalCommand (accept s))

/-- The state after a command that would have led from `s` to `t` is abandoned by reset: no response; the registers as after
reset; the bus request in the trace, and its answer taken and ignored, just when it had been issued (R148; entry 10). -/
def abandoned (issued : Bool) (s t : State) : State :=
  if issued then
    resetRegisters
      { s with trace := t.trace, readAnswers := t.readAnswers, writeAnswers := t.writeAnswers, draws := t.draws }
  else resetRegisters s

/-- Reset asserted while the command of word `w` is in progress (R148). -/
def runWordThenReset (w : Byte) (issued : Bool) (s : State) : Host.Outcome State Fault Refusal :=
  match runWord w s with
  | .next t => .next (abandoned issued s t)
  | .fault r => .fault r
  | .refused r => .refused r

/-- A command word that meets BUSY = 1 is not accepted: `cmd_ready` is 0 (R6, R27). No run reaches such a state (entry 9). -/
def offerWord (w : Byte) (waiting accepted : State) : Host.Outcome State Fault Refusal :=
  if waiting.busy then .next waiting else runWord w accepted

/-- As `runWordThenReset`; with BUSY = 1 the word is not accepted and the reset ends the command in progress (R148). -/
def offerWordThenReset (w : Byte) (issued : Bool) (s : State) : Host.Outcome State Fault Refusal :=
  if s.busy then .next (resetRegisters s) else runWordThenReset w issued s

/-- The input `p` arrives; `waiting` is the state with `p` still pending, `taken` the state without it. -/
def takeInput (p : PortInput) (waiting taken : State) : Host.Outcome State Fault Refusal :=
  match p with
  | .command w => offerWord w waiting taken
  | .reset => .next (resetRegisters taken)
  | .resetDuring w issued => offerWordThenReset w issued taken
  | .encode t ch m ss g => exec (.codecEncode t ch m ss g) taken
  | .decode b => exec (.codecDecode b) taken
  | .sampleValue b0 b1 ss => .next (evalSampleValue b0 b1 ss taken)

/-- The state in which the host presents the word `w` next: in front of the other inputs, with `cmd_ready` = 1 (R6). -/
def presentWord (w : Byte) (s : State) : State := { s with busy := false, inputs := .command w :: s.inputs }

end Sys2Proof.Machine
end

