-- ==== Sys2Proof/Machine/Step.lean ====
section
/-! DEFINITION. One step: RCDS takes what stands first at its inputs; with nothing there it is idle (00_scope.md R6, R12, R13: the
host "may stop issuing commands for ever"). There is no program counter (10_state.md R26), so a host's test program is the list of
words it presents (entry 5). -/

namespace Sys2Proof.Machine

/-- One step. -/
def step (s : State) : Host.Outcome State Fault Refusal :=
  match s.inputs with
  | [] => .next s
  | p :: rest => takeInput p s { s with inputs := rest }

/-- `s` with the command word `w` presented next; bits above the eight of a command word are not there (R75, R80). -/
def State.withFetchWord (s : State) (_nbits w : Nat) : State := presentWord (BitVec.ofNat 8 w) s

end Sys2Proof.Machine
end

