-- ==== Sys2Proof/Machine/Converters.lean ====
section
/-! DEFINITION. The unit converters of 44_unit_converters.md (R118 to R123), as exact functions over the rationals (D18; entry 14).
They are outside RCDS (00_scope.md R4): nothing else in the model uses them. -/

namespace Sys2Proof.Machine

/-- The common factor `u(value) = value / 32767 × 2.048`, whatever the sample setting (R119). -/
def converterFactor (value : Int) : ℚ := value / 32767 * (2048 / 1000)

/-- `convertDataToVoltage` (R120). -/
def convertDataToVoltage (value : Int) : ℚ := converterFactor value / (3197 / 10000)

/-- `convertDataToDischargeCurrent` (R121). -/
def convertDataToDischargeCurrent (value : Int) : ℚ := converterFactor value / (2 / 10)

/-- `convertDataToChargeCurrent`: the same formula, kept as the source has it (R122, D18). -/
def convertDataToChargeCurrent (value : Int) : ℚ := converterFactor value / (2 / 10)

/-- `convertDataToTemperature`: the sensor voltage (R123). -/
def convertDataToTemperature (value : Int) : ℚ := converterFactor value

end Sys2Proof.Machine
end

