-- ==== Sys2Proof/Machine/HostPort.lean ====
section
/-! DEFINITION. The signals of the host port and the numbers of the session-state register, as functions of the state
(00_scope.md R6, 30_encoding.md R78, R79, 10_state.md R27, R33). -/

namespace Sys2Proof.Machine

/-- `cmd_ready` = not BUSY (R27). -/
def State.cmdReady (s : State) : Bool := !s.busy

/-- `cmd_valid` and `cmd[7:0]`: the word the host presents now, if any (R6). -/
def State.cmdWord (s : State) : Option Byte :=
  match s.inputs with
  | .command w :: _ => some w
  | .resetDuring w _ :: _ => some w
  | .reset :: _ => none
  | .encode _ _ _ _ _ :: _ => none
  | .decode _ :: _ => none
  | .sampleValue _ _ _ :: _ => none
  | [] => none

/-- `cmd_valid` (R6). -/
def State.cmdValid (s : State) : Bool := s.cmdWord.isSome

/-- The error codes (R78, R124). -/
def ErrorKind.code : ErrorKind → BitVec 3
  | .transportReadError => 1
  | .transportWriteError => 2
  | .notInitialized => 3
  | .protocolError => 4
  | .illegalCommand => 5

/-- `rsp_code[2:0]` (R78). -/
def Response.code : Response → BitVec 3
  | .ok _ => 0
  | .error k => k.code

/-- `rsp_data[16:0]` of the n-th response: a free value when it is an error (R79, U14; entry 8). -/
def Response.dataPort (n : Nat) : Response → RspData
  | .ok d => d
  | .error _ => Config.freeRspData n

/-- `rsp_valid` in the step from `s` to `t`: a response was given in it (R6: exactly one follows every accepted command). -/
def rspValid (s t : State) : Bool := t.responses.length == s.responses.length + 1

/-- The number of a session state in the two bits of SSTATE; 3 is never held (R15, R33). -/
def SessionState.code : SessionState → BitVec 2
  | .uninitialized => 0
  | .initialized => 1
  | .failed => 2

/-- What the transport receives for a request: address value, bytes written, bytes wanted, timeout (R38 to R40, R48). -/
def BusRequest.handedOver : BusRequest → Nat × List Byte × Nat × Nat
  | .write a bytes t => (a.value, bytes, 0, t)
  | .read a n t => (a.value, [], n, t)

end Sys2Proof.Machine
end

