-- ==== Sys2Proof/Safety.lean ====
section
/-! DEFINITION. What a safe state of RCDS is, in the terms the claims use: the invariants of 10_state.md R28, the two request shapes
of 00_scope.md R7 and the responses that may ever be given (30_encoding.md R78, 60_exceptions.md R129). -/

namespace Sys2Proof.Machine

/-- R7: the write of exactly one byte with WR_TIMEOUT, never with bits 3 to 2 = 11 (R74(a)), or the read of exactly three bytes with
RD_TIMEOUT, each at BUS_ADDR. "No other request shape is ever issued." -/
def BusRequest.Legal (q : BusRequest) : Prop :=
  (∃ b : Byte, q = .write .busAddr [b] 500 ∧ b.extractLsb' 2 2 ≠ 3#2) ∨ q = .read .busAddr 3 1500

/-- R78: `rsp_code` is never 4, 6 or 7. -/
def Response.Legal (r : Response) : Prop := r.code ≠ 4#3 ∧ r.code ≠ 6#3 ∧ r.code ≠ 7#3

/-- The invariant of a state between steps. -/
structure State.Inv (s : State) : Prop where
  /-- R28(a): the trigger is a pulse, never left in the shadow. -/
  trig : s.cfg.trig = .none
  /-- R27: BUSY is 0 before and after every step. -/
  busy : s.busy = false
  /-- R7, R74(a). -/
  trace : ∀ q ∈ s.trace, q.Legal
  /-- R78, R129. -/
  responses : ∀ r ∈ s.responses, r.Legal

end Sys2Proof.Machine
end

