-- ==== Sys2Proof/WellFormed.lean ====
section
/-! DEFINITION. Which command words are legal, written from the list of illegal ones in 30_encoding.md R77, one check per class,
on the fields of format H (R75). Decode.lean is written separately, from R76 and R83; that the two agree is stated. An `Instr`
needs no check: its operands are enumerators. -/

namespace Sys2Proof

/-- R77: `op` is not in 0xB to 0xF. -/
def CommandFields.opAssigned (f : CommandFields) : Bool := f.op.toNat ≤ 0xA

/-- R75, R77: `z` must be 00. -/
def CommandFields.zIsZero (f : CommandFields) : Bool := f.z == 0#2

/-- R76: does the command with this `op` take an operand? -/
def CommandFields.takesOperand (f : CommandFields) : Bool := 2 ≤ f.op.toNat && f.op.toNat ≤ 5

/-- R77: INIT, READ_SAMPLE, the getters and TRIGGER need `arg` = 0. -/
def CommandFields.unusedArgIsZero (f : CommandFields) : Bool := f.takesOperand || f.arg == 0#2

/-- R77, R83: SET_MODE needs `arg[1]` = 0. -/
def CommandFields.modeArgLegal (f : CommandFields) : Bool := !(f.op == 3#4) || !f.arg.getLsbD 1

/-- R77, R83: SET_SAMPLE refuses the reserved sample setting 3 (word 0x43). -/
def CommandFields.sampleArgLegal (f : CommandFields) : Bool := !(f.op == 4#4) || !(f.arg == 3#2)

/-- A legal command word, by its fields (R77). -/
def CommandFields.wellFormed (f : CommandFields) : Bool :=
  f.opAssigned && f.zIsZero && f.unusedArgIsZero && f.modeArgLegal && f.sampleArgLegal

end Sys2Proof
end

