-- ==== Sys2Proof/Certificates/Slice0/Obligations.lean ====
section
/-! DEFINITION. The statements for the provers. The functions of `Spec` write the encodings out as numbers, from the tables of the
spec and not from the model's own functions, so that a statement that uses them says what the bits are. -/

open Sys2Proof Sys2Proof.Machine

namespace Sys2Proof.Spec

/-- R67. -/
def channelNo : Channel → Nat
  | .ch1 => 0 | .ch2 => 1 | .ch3 => 2 | .ch4 => 3

/-- R68. -/
def modeNo : ConversionMode → Nat
  | .oneShot => 0 | .continuous => 1

/-- R69. -/
def sampleNo : SampleSetting → Nat
  | .hz240bits12 => 0 | .hz60bits14 => 1 | .hz15bits16 => 2

/-- R70. -/
def gainNo : PgaGain → Nat
  | .x1 => 0 | .x2 => 1 | .x4 => 2 | .x8 => 3

/-- R71. -/
def triggerNo : TriggerIntent → Nat
  | .none => 0 | .trigger => 1

/-- R64: "As an integer the byte is `128·t + 32·c + 16·m + 4·s + g`." -/
def controlNo (t : TriggerIntent) (ch : Channel) (m : ConversionMode) (ss : SampleSetting) (g : PgaGain) : Nat :=
  128 * triggerNo t + 32 * channelNo ch + 16 * modeNo m + 4 * sampleNo ss + gainNo g

/-- The control byte of a shadow configuration. -/
def controlOf (c : ShadowConfig) : Byte := BitVec.ofNat 8 (controlNo c.trig c.ch c.mode c.ss c.pga)

/-- R69, format S: the field `s` of a status byte, with 3 read as 2. -/
def sampleOf : Nat → SampleSetting
  | 0 => .hz240bits12 | 1 => .hz60bits14 | _ => .hz15bits16

/-- DECODE of a status byte as R88 lists it, on the byte as a number. -/
def statusOf (b : Byte) : StatusFields where
  ds := if b.toNat < 128 then .updated else .notUpdated
  ch := match b.toNat / 32 % 4 with
    | 0 => .ch1 | 1 => .ch2 | 2 => .ch3 | _ => .ch4
  mode := if b.toNat / 16 % 2 = 1 then .continuous else .oneShot
  ss := sampleOf (b.toNat / 4 % 4)
  pga := match b.toNat % 4 with
    | 0 => .x1 | 1 => .x2 | 2 => .x4 | _ => .x8

/-- The shadow configuration with the fields of a status byte and the trigger `t`. -/
def seeded (b : Byte) (t : TriggerIntent) : ShadowConfig :=
  { ch := (statusOf b).ch, mode := (statusOf b).mode, ss := (statusOf b).ss, pga := (statusOf b).pga, ds := (statusOf b).ds, trig := t }

/-- Exactly one response was given, `r`, and BUSY is 0. -/
def Answered (r : Response) (s t : State) : Prop := t.busy = false ∧ t.responses = s.responses ++ [r]

/-- No bus request was issued. -/
def NoBus (s t : State) : Prop :=
  t.trace = s.trace ∧ t.readAnswers = s.readAnswers ∧ t.writeAnswers = s.writeAnswers

/-- One bus read of three bytes was issued and its answer taken. -/
def OneRead (s t : State) : Prop :=
  t.trace = s.trace ++ [.read .busAddr 3 1500] ∧ t.readAnswers = s.readAnswers.tail ∧ t.writeAnswers = s.writeAnswers

/-- One bus write was issued, of the control byte of `c`, and its answer taken. -/
def OneWrite (c : ShadowConfig) (s t : State) : Prop :=
  t.trace = s.trace ++ [.write .busAddr [controlOf c] 500] ∧ t.writeAnswers = s.writeAnswers.tail ∧ t.readAnswers = s.readAnswers

/-- The inputs still to come and the codec ports are as before. -/
def PortsKept (s t : State) : Prop := t.inputs = s.inputs ∧ t.codecOut = s.codecOut

/-- A writing command's next state: the shadow is `c`, the byte pushed is that of `c'`, the response is `r`, and SSTATE and the other
ports are as before. -/
def Wrote (c c' : ShadowConfig) (r : Response) (s t : State) : Prop :=
  t.cfg = c ∧ t.sstate = s.sstate ∧ OneWrite c' s t ∧ Answered r s t ∧ PortsKept s t

/-- A command that gives the response `r` and changes nothing else. -/
def OnlyAnswered (r : Response) (s t : State) : Prop :=
  t.cfg = s.cfg ∧ t.sstate = s.sstate ∧ NoBus s t ∧ Answered r s t ∧ PortsKept s t

/-- The fields outside CFG and SSTATE are the same in both states. -/
def SamePorts (s t : State) : Prop :=
  s.busy = t.busy ∧ s.inputs = t.inputs ∧ s.readAnswers = t.readAnswers ∧ s.writeAnswers = t.writeAnswers ∧ s.draws = t.draws ∧
    s.trace = t.trace ∧ s.responses = t.responses ∧ s.codecOut = t.codecOut

/-- The two states differ at most in CH, MODE, SS, PGA and DS, and only where SSTATE is not `Initialized` (R32). -/
def SameButUnseeded (s t : State) : Prop :=
  s.sstate = t.sstate ∧ s.cfg.trig = t.cfg.trig ∧ (s.sstate = .initialized → s.cfg = t.cfg) ∧ SamePorts s t

/-- The two states differ at most in whether SSTATE is `Uninitialized` or `Failed` (R167(d)). -/
def SameButFailed (s t : State) : Prop :=
  s.cfg = t.cfg ∧ (s.sstate = .initialized ↔ t.sstate = .initialized) ∧ SamePorts s t

/-- The six fields of CFG. -/
inductive CfgField where
  | ch | mode | ss | pga | ds | trig
deriving DecidableEq, Repr

/-- Field `f` is the same in both shadow configurations. -/
def FieldKept : CfgField → ShadowConfig → ShadowConfig → Prop
  | .ch, c, d => d.ch = c.ch
  | .mode, c, d => d.mode = c.mode
  | .ss, c, d => d.ss = c.ss
  | .pga, c, d => d.pga = c.pga
  | .ds, c, d => d.ds = c.ds
  | .trig, c, d => d.trig = c.trig

/-- The "w" entries of R25's table. -/
def mayWrite : Instr → CfgField → Bool
  | .init, _ => true
  | .readSample, f => f != .trig
  | .setChannel _, f => f == .ch
  | .setMode _, f => f == .mode
  | .setSample _, f => f == .ss
  | .setPga _, f => f == .pga
  | .trigger, f => f == .trig
  | .getChannel, _ => false
  | .getMode, _ => false
  | .getSample, _ => false
  | .getPga, _ => false
  | .codecEncode _ _ _ _ _, _ => false
  | .codecDecode _, _ => false

/-- The commands that write the bus (R45). -/
def isWriting : Instr → Bool
  | .setChannel _ => true
  | .setMode _ => true
  | .setSample _ => true
  | .setPga _ => true
  | .trigger => true
  | .init => false
  | .readSample => false
  | .getChannel => false
  | .getMode => false
  | .getSample => false
  | .getPga => false
  | .codecEncode _ _ _ _ _ => false
  | .codecDecode _ => false

/-- The commands that read the bus (R45). -/
def isReading : Instr → Bool
  | .init => true
  | .readSample => true
  | .setChannel _ => false
  | .setMode _ => false
  | .setSample _ => false
  | .setPga _ => false
  | .trigger => false
  | .getChannel => false
  | .getMode => false
  | .getSample => false
  | .getPga => false
  | .codecEncode _ _ _ _ _ => false
  | .codecDecode _ => false

/-- The errors a command can end with: R131's table. -/
def mayRaise (i : Instr) (k : ErrorKind) : Bool :=
  match k with
  | .transportReadError => isReading i
  | .transportWriteError => isWriting i
  | .notInitialized => i.isHostCommand && i != .init
  | .protocolError => false
  | .illegalCommand => false

end Sys2Proof.Spec

open Sys2Proof.Spec

/-! ## The step and the command word -/

/-- R6, R12, R75: an idle RCDS that is presented a legal word runs the command the word decodes to, on the state without that input. -/
def Obligations.StepRunsTheDecodedCommand : Prop :=
  ∀ (s : State) (w : Byte) (i : Instr) (rest : List PortInput),
    s.inputs = .command w :: rest → s.busy = false → decode w = .ok i → step s = exec i { s with inputs := rest }

/-- R77, R130, R134 (decision D12): an illegal word is answered `IllegalCommand` in every session state, before SSTATE is looked at,
and nothing else changes. -/
def Obligations.IllegalWordIsRefusedInEveryState : Prop :=
  ∀ (s : State) (w : Byte) (e : IllegalWord) (rest : List PortInput),
    s.inputs = .command w :: rest → s.busy = false → decode w = .error e →
      ∃ t, step s = .next t ∧ OnlyAnswered (.error .illegalCommand) { s with inputs := rest } t

/-- R27, R8, R13: with nothing at the inputs RCDS is idle; with BUSY = 1 a word is not accepted; operands on a codec port are
evaluated. The list of inputs is the model's (entries 5, 7). -/
def Obligations.StepTakesOtherInputs : Prop :=
  (∀ s : State, s.inputs = [] → step s = .next s) ∧
  (∀ (s : State) (w : Byte) (rest : List PortInput), s.inputs = .command w :: rest → s.busy = true → step s = .next s) ∧
  (∀ (s : State) (t : TriggerIntent) (ch : Channel) (m : ConversionMode) (ss : SampleSetting) (g : PgaGain)
    (rest : List PortInput), s.inputs = .encode t ch m ss g :: rest → step s = exec (.codecEncode t ch m ss g) { s with inputs := rest }) ∧
  (∀ (s : State) (b : Byte) (rest : List PortInput),
    s.inputs = .decode b :: rest → step s = exec (.codecDecode b) { s with inputs := rest })

/-- `withFetchWord` presents the word: the very next step runs the command it decodes to, on the state itself with BUSY = 0. -/
def Obligations.PresentedWordRunsNext : Prop :=
  ∀ (s : State) (w : Nat) (i : Instr), decodeTableWord 8 w = some i → step (s.withFetchWord 8 w) = exec i { s with busy := false }

/-- R76's encodings, a word written out for every command (sanity). -/
def Obligations.WordsOfTheOpcodeMapDecode : Prop :=
  decode 0b00000000#8 = .ok .init ∧ decode 0b00010000#8 = .ok .readSample ∧ decode 0b00100010#8 = .ok (.setChannel .ch3) ∧
    decode 0b00110001#8 = .ok (.setMode .continuous) ∧ decode 0b01000010#8 = .ok (.setSample .hz15bits16) ∧
    decode 0b01010010#8 = .ok (.setPga .x4) ∧ decode 0b01100000#8 = .ok .getChannel ∧ decode 0b01110000#8 = .ok .getMode ∧
    decode 0b10000000#8 = .ok .getSample ∧ decode 0b10010000#8 = .ok .getPga ∧ decode 0b10100000#8 = .ok .trigger

/-- Decoding and encoding agree: every host command has a word, that word decodes to it with its operand whatever it is, and a word
that decodes to a command is that command's word (R75, R76, R83). -/
def Obligations.DecodeAndEncodeAgree : Prop :=
  (∀ i : Instr, i.isHostCommand = true → ∃ w, encode i = some w ∧ decode w = .ok i) ∧
  (∀ (w : Byte) (i : Instr), decode w = .ok i → i.isHostCommand = true ∧ encode i = some w)

/-- The decoder accepts exactly the words that pass the checks of R77, and exactly those that select a row of R76's map and are not
0x43. -/
def Obligations.DecoderAcceptsExactlyTheLegalWords : Prop :=
  ∀ w : Byte, ((∃ i, decode w = .ok i) ↔ (commandFields w).wellFormed = true) ∧
    ((∃ i, decode w = .ok i) ↔ (∃ r ∈ opcodeRows, r.selects w = true) ∧ w ≠ 0x43#8)

/-! ## The register codec -/

/-- R85, R64: ENCODE's byte is `128·t + 32·c + 16·m + 4·s + g`, for all 192 inputs, in every state, and evaluating it changes no
state of RCDS and issues no bus request. -/
def Obligations.EncodePacksFiveFields : Prop :=
  ∀ (t : TriggerIntent) (ch : Channel) (m : ConversionMode) (ss : SampleSetting) (g : PgaGain) (s : State),
    ∃ b : Byte, b.toNat = controlNo t ch m ss g ∧
      exec (.codecEncode t ch m ss g) s = .next { s with codecOut := s.codecOut ++ [.controlByte b] }

/-- R88, R65, R89: DECODE of each of the 256 bytes, in every state: no error path, no state of RCDS changed, no bus request. -/
def Obligations.DecodeUnpacksEveryByte : Prop :=
  ∀ (b : Byte) (s : State), exec (.codecDecode b) s = .next { s with codecOut := s.codecOut ++ [.statusFields (statusOf b)] }

/-- R87: ENCODE is injective and its image is the bytes whose bits 3 to 2 are not 11. -/
def Obligations.EncodeIsInjectiveOntoUnreservedBytes : Prop :=
  (∀ (t t' : TriggerIntent) (ch ch' : Channel) (m m' : ConversionMode) (ss ss' : SampleSetting) (g g' : PgaGain),
    encodeByte t ch m ss g = encodeByte t' ch' m' ss' g' → t = t' ∧ ch = ch' ∧ m = m' ∧ ss = ss' ∧ g = g') ∧
  (∀ b : Byte, (∃ t ch m ss g, encodeByte t ch m ss g = b) ↔ b.toNat / 4 % 4 ≠ 3)

/-- R93 and R94: DECODE after ENCODE gives the four shared fields back and the trigger bit as data status; ENCODE after DECODE gives
the byte with bit 7 cleared and a reserved sample setting 3 turned into 2. -/
def Obligations.CodecRoundTrips : Prop :=
  (∀ (t : TriggerIntent) (ch : Channel) (m : ConversionMode) (ss : SampleSetting) (g : PgaGain),
    decodeByte (encodeByte t ch m ss g) =
      { ds := if t = .trigger then .notUpdated else .updated, ch := ch, mode := m, ss := ss, pga := g }) ∧
  (∀ b : Byte, encodeByte .none (decodeByte b).ch (decodeByte b).mode (decodeByte b).ss (decodeByte b).pga =
    if b.toNat / 4 % 4 = 3 then b &&& 0x7B#8 else b &&& 0x7F#8)

/-- R91 (decision D7): both readings of SAMPLE_VALUE as arithmetic on the big-endian word, and what SAMPLE_VALUE's own port gives:
the reading this machine's `NARROW` selects, whichever it is. -/
def Obligations.SampleValueIsOneOfTwoReadings : Prop :=
  ∀ (b0 b1 : Byte) (ss : SampleSetting),
    (sampleValue .full16 b0 b1 ss =
      if 256 * b0.toNat + b1.toNat < 32768 then ((256 * b0.toNat + b1.toNat : Nat) : Int) else ((256 * b0.toNat + b1.toNat : Nat) : Int) - 65536) ∧
    (sampleValue .toResolution b0 b1 ss =
      match ss with
      | .hz240bits12 =>
        let v := (256 * b0.toNat + b1.toNat) % 4096
        if v < 2048 then (v : Int) else (v : Int) - 4096
      | .hz60bits14 =>
        let v := (256 * b0.toNat + b1.toNat) % 16384
        if v < 8192 then (v : Int) else (v : Int) - 16384
      | .hz15bits16 =>
        let v := 256 * b0.toNat + b1.toNat
        if v < 32768 then (v : Int) else (v : Int) - 65536) ∧
    (∀ (s : State) (rest : List PortInput), s.inputs = .sampleValue b0 b1 ss :: rest →
      step s = .next { s with inputs := rest, codecOut := s.codecOut ++ [.sample (sampleValue Config.narrow b0 b1 ss)] })

/-- R92(a), (b) and R36: every value fits 16 bits, and under `TO_RESOLUTION` the range of the sample setting. -/
def Obligations.SampleValueFitsItsRange : Prop :=
  ∀ (narrow : Narrow) (b0 b1 : Byte) (ss : SampleSetting),
    -32768 ≤ sampleValue narrow b0 b1 ss ∧ sampleValue narrow b0 b1 ss ≤ 32767 ∧
    (narrow = .toResolution → ss = .hz240bits12 → -2048 ≤ sampleValue narrow b0 b1 ss ∧ sampleValue narrow b0 b1 ss ≤ 2047) ∧
    (narrow = .toResolution → ss = .hz60bits14 → -8192 ≤ sampleValue narrow b0 b1 ss ∧ sampleValue narrow b0 b1 ss ≤ 8191)

/-- R92(c), (d): the two readings agree exactly on the words that are sign extensions, so `NARROW` is unobservable on the frames of a
conforming device. -/
def Obligations.NarrowIsUnobservableExactlyOnSignExtendedWords : Prop :=
  ∀ (b0 b1 : Byte) (ss : SampleSetting),
    sampleValue .full16 b0 b1 ss = sampleValue .toResolution b0 b1 ss ↔
      match ss with
      | .hz240bits12 => 256 * b0.toNat + b1.toNat ≤ 0x07FF ∨ 0xF800 ≤ 256 * b0.toNat + b1.toNat
      | .hz60bits14 => 256 * b0.toNat + b1.toNat ≤ 0x1FFF ∨ 0xE000 ≤ 256 * b0.toNat + b1.toNat
      | .hz15bits16 => True

/-! ## The commands that read the bus -/

/-- R99 (decisions D5, D9): INIT with a successful read, from every session state: the shadow is seeded from the status byte, TRIG is
`None`, SSTATE is `Initialized`, one 3-byte read was issued, the response is `Ok(0)`. -/
def Obligations.InitSeedsTheShadow : Prop :=
  ∀ (s : State) (b0 b1 b2 : Byte), s.readAnswer = .ok b0 b1 b2 →
    ∃ t, exec .init s = .next t ∧ t.cfg = seeded b2 .none ∧ t.sstate = .initialized ∧ OneRead s t ∧ Answered (.ok 0) s t ∧ PortsKept s t

/-- R99, R125, R128(b) (decision D5): INIT with a failed read: `Failed` unless it was `Initialized`; the shadow keeps its fields, TRIG
is `None`; the response is `TransportReadError`. -/
def Obligations.FailedInitKeepsTheShadow : Prop :=
  ∀ s : State, s.readAnswer = .err →
    ∃ t, exec .init s = .next t ∧ t.cfg = { s.cfg with trig := .none } ∧
      t.sstate = (if s.sstate = .initialized then .initialized else .failed) ∧ OneRead s t ∧
      Answered (.error .transportReadError) s t ∧ PortsKept s t

/-- R100, R102 (decisions D7, D8): READ_SAMPLE with a successful read: the shadow takes the echoed fields, TRIG is kept, and the
response is `Ok` with bit 16 the status of this frame and bits 15 to 0 the value, under the sample setting of this frame. -/
def Obligations.ReadSampleReturnsTheFrame : Prop :=
  ∀ (s : State) (b0 b1 b2 : Byte), s.sstate = .initialized → s.readAnswer = .ok b0 b1 b2 →
    ∃ t d, exec .readSample s = .next t ∧ t.cfg = seeded b2 s.cfg.trig ∧ t.sstate = .initialized ∧ OneRead s t ∧
      Answered (.ok d) s t ∧ PortsKept s t ∧
      d.toNat / 65536 = b2.toNat / 128 ∧
      ((d.toNat % 65536 : Nat) : Int) = sampleValue Config.narrow b0 b1 (sampleOf (b2.toNat / 4 % 4)) % 65536

/-- R103: a failed READ_SAMPLE changes nothing in RCDS; one read was issued; the response carries no Sample. -/
def Obligations.FailedReadSampleChangesNothing : Prop :=
  ∀ s : State, s.sstate = .initialized → s.readAnswer = .err →
    ∃ t, exec .readSample s = .next t ∧ t.cfg = s.cfg ∧ t.sstate = s.sstate ∧ OneRead s t ∧
      Answered (.error .transportReadError) s t ∧ PortsKept s t

/-- R101, R152: after a successful READ_SAMPLE or INIT the shadow's configuration fields are the device's echo; whatever was set
locally before, pushed or not, is lost, and the response is `Ok`. -/
def Obligations.SuccessfulReadDiscardsLocalSettings : Prop :=
  ∀ (s s' : State) (i : Instr) (b0 b1 b2 : Byte), (i = .readSample ∧ s.sstate = .initialized ∧ s'.sstate = .initialized) ∨ i = .init →
    s.readAnswer = .ok b0 b1 b2 → s'.readAnswer = .ok b0 b1 b2 →
    ∃ t t' d, exec i s = .next t ∧ exec i s' = .next t' ∧ t.responses = s.responses ++ [.ok d] ∧ t'.responses = s'.responses ++ [.ok d] ∧
      { t.cfg with trig := .none } = seeded b2 .none ∧ { t'.cfg with trig := .none } = seeded b2 .none

/-! ## The commands that write the bus -/

/-- R104: PUSH writes the one byte ENCODE(CFG), whatever was written last, reads no DS, and writes no state of RCDS. -/
def Obligations.PushWritesTheWholeConfigurationOnce : Prop :=
  ∀ s : State, ∃ t, push s = (s.writeAnswer, t) ∧ t.cfg = s.cfg ∧ t.sstate = s.sstate ∧ t.busy = s.busy ∧ OneWrite s.cfg s t ∧
    t.responses = s.responses ∧ PortsKept s t ∧
    ∀ ds, (push { s with cfg := { s.cfg with ds := ds } }).2.trace = t.trace

/-- R106 to R109, R112 (decision D4 for the condition): a setter whose write is answered `Ok` sets its own field, sends the whole
configuration byte with the other fields as the shadow holds them, and answers `Ok(0)`. -/
def Obligations.SettersSetOneFieldAndPush : Prop :=
  ∀ s : State, s.sstate = .initialized → s.writeAnswer = .ok →
    (∀ ch, ∃ t, exec (.setChannel ch) s = .next t ∧ Wrote { s.cfg with ch := ch } { s.cfg with ch := ch } (.ok 0) s t) ∧
    (∀ m, ∃ t, exec (.setMode m) s = .next t ∧ Wrote { s.cfg with mode := m } { s.cfg with mode := m } (.ok 0) s t) ∧
    (∀ ss, ∃ t, exec (.setSample ss) s = .next t ∧ Wrote { s.cfg with ss := ss } { s.cfg with ss := ss } (.ok 0) s t) ∧
    (∀ g, ∃ t, exec (.setPga g) s = .next t ∧ Wrote { s.cfg with pga := g } { s.cfg with pga := g } (.ok 0) s t)

/-- R126, R105: when the write of a push is answered `Err`, the response is `TransportWriteError`, the shadow change stays, TRIG is
`None` after TRIGGER, SSTATE is unchanged; one write was issued. -/
def Obligations.FailedWriteIsNotRolledBack : Prop :=
  ∀ s : State, s.sstate = .initialized → s.writeAnswer = .err →
    (∀ ch, ∃ t, exec (.setChannel ch) s = .next t ∧
      Wrote { s.cfg with ch := ch } { s.cfg with ch := ch } (.error .transportWriteError) s t) ∧
    (∀ m, ∃ t, exec (.setMode m) s = .next t ∧
      Wrote { s.cfg with mode := m } { s.cfg with mode := m } (.error .transportWriteError) s t) ∧
    (∀ ss, ∃ t, exec (.setSample ss) s = .next t ∧
      Wrote { s.cfg with ss := ss } { s.cfg with ss := ss } (.error .transportWriteError) s t) ∧
    (∀ g, ∃ t, exec (.setPga g) s = .next t ∧
      Wrote { s.cfg with pga := g } { s.cfg with pga := g } (.error .transportWriteError) s t) ∧
    (∃ t, exec .trigger s = .next t ∧
      Wrote { s.cfg with trig := .none } { s.cfg with trig := .trigger } (.error .transportWriteError) s t)

/-- R110, R111 (decision D4 for the condition): TRIGGER whose write is answered `Ok`, in either mode: the byte has bit 7 = 1 and the
shadow's configuration in bits 6 to 0, TRIG is `None` afterwards, DS keeps its value, the response is `Ok(0)`. -/
def Obligations.TriggerIsAPulseInEitherMode : Prop :=
  ∀ (s : State) (m : ConversionMode), s.cfg.mode = m → s.sstate = .initialized → s.writeAnswer = .ok →
    ∃ t, exec .trigger s = .next t ∧ Wrote { s.cfg with trig := .none } { s.cfg with trig := .trigger } (.ok 0) s t ∧
      (controlOf { s.cfg with trig := .trigger }).toNat = 128 + controlNo .none s.cfg.ch m s.cfg.ss s.cfg.pga

/-- R71, R155: bit 7 of a control byte is 1 iff the trigger is `Trigger`; and with TRIG `None` before it (the invariant R28(a)), a
command writes a byte with bit 7 = 1 exactly if it is TRIGGER. -/
def Obligations.OnlyTriggerWritesBitSeven : Prop :=
  (∀ (t : TriggerIntent) (ch : Channel) (m : ConversionMode) (ss : SampleSetting) (g : PgaGain),
    (encodeByte t ch m ss g).getLsbD 7 = true ↔ t = .trigger) ∧
  (∀ (s t : State) (i : Instr) (b : Byte), s.cfg.trig = .none → exec i s = .next t →
    t.trace = s.trace ++ [.write .busAddr [b] 500] → (b.getLsbD 7 = true ↔ i = .trigger))

/-! ## The getters -/

/-- R114 to R117 (decision D4 for the condition): a getter answers `Ok` with the number of the shadow's field, issues no bus request
and writes no state. -/
def Obligations.GettersReturnTheShadow : Prop :=
  ∀ s : State, s.sstate = .initialized →
    (∃ t, exec .getChannel s = .next t ∧ OnlyAnswered (.ok (BitVec.ofNat 17 (channelNo s.cfg.ch))) s t) ∧
    (∃ t, exec .getMode s = .next t ∧ OnlyAnswered (.ok (BitVec.ofNat 17 (modeNo s.cfg.mode))) s t) ∧
    (∃ t, exec .getSample s = .next t ∧ OnlyAnswered (.ok (BitVec.ofNat 17 (sampleNo s.cfg.ss))) s t) ∧
    (∃ t, exec .getPga s = .next t ∧ OnlyAnswered (.ok (BitVec.ofNat 17 (gainNo s.cfg.pga))) s t)

/-- R59(c), R105, and the source's sixth and seventh properties (S6, S7): whatever the transport answered to the setter, its getter
then returns the value set, without a bus request. -/
def Obligations.GetterReturnsTheValueJustSet : Prop :=
  ∀ s : State, s.sstate = .initialized →
    (∀ ch, ∃ t u, exec (.setChannel ch) s = .next t ∧ exec .getChannel t = .next u ∧ u.trace = t.trace ∧
      u.responses = t.responses ++ [.ok (BitVec.ofNat 17 (channelNo ch))]) ∧
    (∀ m, ∃ t u, exec (.setMode m) s = .next t ∧ exec .getMode t = .next u ∧ u.trace = t.trace ∧
      u.responses = t.responses ++ [.ok (BitVec.ofNat 17 (modeNo m))]) ∧
    (∀ ss, ∃ t u, exec (.setSample ss) s = .next t ∧ exec .getSample t = .next u ∧ u.trace = t.trace ∧
      u.responses = t.responses ++ [.ok (BitVec.ofNat 17 (sampleNo ss))]) ∧
    (∀ g, ∃ t u, exec (.setPga g) s = .next t ∧ exec .getPga t = .next u ∧ u.trace = t.trace ∧
      u.responses = t.responses ++ [.ok (BitVec.ofNat 17 (gainNo g))])

/-! ## Errors and refusals -/

/-- R127 (decision D4): every command but INIT is refused with `NotInitialized` when SSTATE is `Uninitialized` or `Failed`: no shadow
field written, no bus request. -/
def Obligations.CommandsBeforeInitAreRefused : Prop :=
  ∀ (s : State) (i : Instr), s.sstate ≠ .initialized → i.isHostCommand = true → i ≠ .init →
    ∃ t, exec i s = .next t ∧ OnlyAnswered (.error .notInitialized) s t

/-- R6, R78, R131 (decisions D2, D3): each command gives exactly one response, and the error kinds it can give are those of R131's
table; `NotInitialized` only when SSTATE is not `Initialized`. -/
def Obligations.EachCommandEndsOnlyWithItsOwnErrors : Prop :=
  ∀ (s t : State) (i : Instr), i.isHostCommand = true → exec i s = .next t →
    ∃ r, t.responses = s.responses ++ [r] ∧
      ∀ k, r = .error k → mayRaise i k = true ∧ (k = .notInitialized ↔ s.sstate ≠ .initialized ∧ i ≠ .init)

/-- R132, R12 (decision D5 for `Failed`): no operation and no step ever stops the machine. -/
def Obligations.NothingStopsTheMachine : Prop :=
  (∀ (i : Instr) (s : State), ∃ t, exec i s = .next t) ∧ (∀ s : State, ∃ t, step s = .next t)

/-! ## Frames and rules of the whole machine -/

/-- R25: an operation changes only the CFG fields its row marks "w"; and no field where it is refused. -/
def Obligations.OperationsWriteOnlyTheirOwnFields : Prop :=
  ∀ (s t : State) (i : Instr) (f : CfgField), exec i s = .next t →
    mayWrite i f = false ∨ (i ≠ .init ∧ s.sstate ≠ .initialized) → FieldKept f s.cfg t.cfg

/-- R29: after every operation CFG.DS is the copy of bit 7 of the status byte where INIT or READ_SAMPLE has just read successfully, and
is what it was in every other case; and TRIG is no flag the host can read: the responses do not depend on it. -/
def Obligations.DataStatusComesOnlyFromReads : Prop :=
  ∀ (s t : State) (i : Instr), exec i s = .next t →
    (t.cfg.ds = match s.readAnswer with
      | .ok _ _ b2 =>
        if isReading i = true ∧ (i = .init ∨ s.sstate = .initialized) then (if b2.getLsbD 7 then .notUpdated else .updated) else s.cfg.ds
      | .err => s.cfg.ds) ∧
    ∀ tr, ∃ u, exec i { s with cfg := { s.cfg with trig := tr } } = .next u ∧ u.responses = t.responses

/-- R22, R99: SSTATE is written by INIT only, and once `Initialized` no operation changes it (decisions D4, D5). -/
def Obligations.OnlyInitWritesTheSessionState : Prop :=
  ∀ (s t : State) (i : Instr), exec i s = .next t → t.sstate ≠ s.sstate → i = .init ∧ s.sstate ≠ .initialized

/-- R28(c): a step keeps `Initialized` unless the reset input is asserted. -/
def Obligations.InitializedLastsUntilReset : Prop :=
  ∀ (s t : State), s.sstate = .initialized → (∀ rest, s.inputs ≠ .reset :: rest) → (∀ w issued rest, s.inputs ≠ .resetDuring w issued :: rest) →
    step s = .next t → t.sstate = .initialized

/-- R39, R40, R45: each command issues at most one bus request: one write of exactly one byte by a setter or TRIGGER, one read of
exactly three bytes by INIT or READ_SAMPLE, none by a getter, by a codec function, or by a refused command. -/
def Obligations.EachCommandMakesAtMostOneBusRequest : Prop :=
  ∀ (s t : State) (i : Instr), exec i s = .next t →
    if i ≠ .init ∧ s.sstate ≠ .initialized then t.trace = s.trace
    else if isWriting i = true then ∃ b, t.trace = s.trace ++ [.write .busAddr [b] 500]
    else if isReading i = true then t.trace = s.trace ++ [.read .busAddr 3 1500]
    else t.trace = s.trace

/-- R62(e), R104: after a setter or TRIGGER in an initialized session, the byte last written decodes to the shadow's four persisted
fields. -/
def Obligations.LastWrittenByteDecodesToTheShadow : Prop :=
  ∀ (s t : State) (i : Instr), s.sstate = .initialized → isWriting i = true → exec i s = .next t →
    ∃ b, t.trace = s.trace ++ [.write .busAddr [b] 500] ∧ (statusOf b).ch = t.cfg.ch ∧ (statusOf b).mode = t.cfg.mode ∧
      (statusOf b).ss = t.cfg.ss ∧ (statusOf b).pga = t.cfg.pga

/-- R94: after a READ_SAMPLE, each of the four setters, set to what its field of the refreshed shadow holds, writes back the device's own
configuration bits, with bit 7 cleared and a reserved sample setting written back as 2, whatever the transport answers. -/
def Obligations.ReadThenSetterWritesTheEchoBack : Prop :=
  ∀ (s : State) (b0 b1 b2 : Byte), s.sstate = .initialized → s.cfg.trig = .none → s.readAnswer = .ok b0 b1 b2 →
    ∃ t, exec .readSample s = .next t ∧
      ∀ i ∈ [Instr.setChannel t.cfg.ch, .setMode t.cfg.mode, .setSample t.cfg.ss, .setPga t.cfg.pga],
        ∃ u, exec i t = .next u ∧
          u.trace = t.trace ++ [.write .busAddr [if b2.toNat / 4 % 4 = 3 then b2 &&& 0x7B#8 else b2 &&& 0x7F#8] 500]

/-! ## Reset -/

/-- R31 (decision D11): after reset SSTATE is `Uninitialized`, BUSY 0, TRIG `None`; nothing has been issued or answered. The values of
the other five CFG fields are the model's (entry 1), and no statement uses them. -/
def Obligations.ResetState : Prop :=
  State.reset.sstate = .uninitialized ∧ State.reset.busy = false ∧ State.reset.cfg.trig = .none ∧ State.reset.trace = [] ∧
    State.reset.responses = [] ∧ State.reset.cmdReady = true

/-- R146, R149 (decision D11): the reset input puts SSTATE, BUSY and TRIG at their reset values, from every state, and sends nothing on
the bus: the device is not reset. No response is given. -/
def Obligations.ResetInputSendsNothing : Prop :=
  ∀ (s : State) (rest : List PortInput), s.inputs = .reset :: rest →
    ∃ t, step s = .next t ∧ t.sstate = .uninitialized ∧ t.busy = false ∧ t.cfg.trig = .none ∧ NoBus s t ∧ t.responses = s.responses ∧
      t.inputs = rest ∧ t.codecOut = s.codecOut

/-- R148 (decision D11): reset while a command is in progress: no response for it, registers as after reset, and the bus request it
had issued, if it had, stays issued. Where in the command the reset falls is a part of the input (entry 10). -/
def Obligations.ResetAbandonsTheCommandInProgress : Prop :=
  ∀ (s u : State) (w : Byte) (issued : Bool) (rest : List PortInput), s.inputs = .resetDuring w issued :: rest → s.busy = false →
    step { s with inputs := .command w :: rest } = .next u →
    ∃ t, step s = .next t ∧ t.sstate = .uninitialized ∧ t.busy = false ∧ t.cfg.trig = .none ∧ t.responses = s.responses ∧
      t.inputs = rest ∧ t.trace = if issued then u.trace else s.trace

/-! ## Invariants and runs -/

/-- R28, R27, R7, R78 hold after reset. -/
def Obligations.ResetSatisfiesTheInvariant : Prop := State.reset.Inv

/-- R28(a), R27, R7, R74(a), R78: between steps the trigger is `None` and BUSY is 0; every bus request ever issued has one of the two
shapes of R7 and never a reserved sample setting; no response ever has code 4, 6 or 7. Every step, resets included, keeps this. -/
def Obligations.StepKeepsTheInvariant : Prop :=
  ∀ s t : State, s.Inv → step s = .next t → t.Inv

/-- R32: the unspecified reset values are never observable. Two states that differ only in CFG fields never seeded take steps to two
such states: same responses, same bus requests, same codec outputs, for ever. -/
def Obligations.UnseededShadowIsUnobservable : Prop :=
  ∀ s t : State, SameButUnseeded s t → ∃ s' t', step s = .next s' ∧ step t = .next t' ∧ SameButUnseeded s' t'

/-- R167(d) (decisions D4, D5): `Uninitialized` and `Failed` cannot be told apart on the host port, nor on the bus. -/
def Obligations.FailedLooksLikeUninitialized : Prop :=
  ∀ s t : State, SameButFailed s t → ∃ s' t', step s = .next s' ∧ step t = .next t' ∧ SameButFailed s' t'

/-- R6, R59, R165: for every list of command words, legal or not, and every sequence of transport answers, as many steps as words end
with every word accepted, exactly one response for each, and at most one bus request for each, none dropped or merged: what was
issued and answered before stays as it is. -/
def Obligations.EveryWordGetsExactlyOneResponse : Prop :=
  ∀ (ws : List Byte) (s : State), s.busy = false → s.inputs = ws.map .command →
    ∃ t, core.run ws.length s = .next t ∧ t.inputs = [] ∧ t.busy = false ∧
      (∃ rs : List Response, t.responses = s.responses ++ rs ∧ rs.length = ws.length) ∧
      (∃ qs : List BusRequest, t.trace = s.trace ++ qs ∧ qs.length ≤ ws.length)

/-! ## The unit converters (outside RCDS) -/

/-- R119 to R123 (decision D18: exact rationals): the converters as single fractions; the two current formulas are the same. -/
def Obligations.ConvertersAreExactFractions : Prop :=
  ∀ v : Int, converterFactor v = (v : ℚ) * 256 / 4095875 ∧ convertDataToVoltage v = (v : ℚ) * 20480 / 104756099 ∧
    convertDataToDischargeCurrent v = (v : ℚ) * 256 / 819175 ∧ convertDataToChargeCurrent v = convertDataToDischargeCurrent v ∧
    convertDataToTemperature v = converterFactor v
end

