-- ==== Sys2Proof/Laws/Codec.lean ====
section
/-! SUPPORT. The small lemmas of the codec: where each field of a control byte stands, and that this machine's SAMPLE_VALUE is R91's. -/

namespace Sys2Proof.Machine

variable (t : TriggerIntent) (ch : Channel) (m : ConversionMode) (ss : SampleSetting) (g : PgaGain)

/-- A control byte has its sample setting in bits 3:2 (R64). -/
theorem encodeByte_sample : (encodeByte t ch m ss g).extractLsb' 2 2 = ss.index := by
  cases t <;> cases ch <;> cases m <;> cases ss <;> cases g <;> decide

/-- A control byte has the trigger in bit 7 (R64, R71). -/
theorem encodeByte_trigger : (encodeByte t ch m ss g).getLsbD 7 = (t == .trigger) := by
  cases t <;> cases ch <;> cases m <;> cases ss <;> cases g <;> decide

/-- The same, in the form `simp` gives to a bit at a numeral. -/
theorem encodeByte_getElem_seven : (encodeByte t ch m ss g)[7] = (t == .trigger) := encodeByte_trigger t ch m ss g

/-- No sample setting has the index 3 (R18, R69). -/
theorem sampleIndex_ne_three : ss.index ≠ 3#2 := by
  cases ss <;> decide

/-- Consulting `NARROW` only where the readings differ is R91 (entry 3). -/
theorem sampleValueHere_eq (b0 b1 : Byte) : sampleValueHere b0 b1 ss = sampleValue Config.narrow b0 b1 ss := by
  unfold sampleValueHere
  split
  case isTrue h => cases Config.narrow <;> simp [h]
  case isFalse => rfl

/-- The value of the wire word (R73). -/
theorem sampleWord_toNat (b0 b1 : Byte) : (sampleWord b0 b1).toNat = 256 * b0.toNat + b1.toNat := by
  have h := b1.isLt
  simp only [sampleWord, BitVec.toNat_append]
  rw [← Nat.shiftLeft_add_eq_or_of_lt h, Nat.shiftLeft_eq]
  omega

/-- The range of `sext_N` on an N-bit value (R11). -/
theorem sext_bounds {n v : Nat} (hn : 0 < n) (hv : v < 2 ^ n) : -(2 : Int) ^ (n - 1) ≤ sext n v ∧ sext n v < 2 ^ (n - 1) := by
  obtain ⟨k, rfl⟩ : ∃ k, n = k + 1 := ⟨n - 1, by omega⟩
  have hp : (2 : Int) ^ (k + 1) = 2 * 2 ^ k := by ring
  have hc : ((2 ^ k : Nat) : Int) = 2 ^ k := by push_cast; rfl
  have hv' : v < 2 * 2 ^ k := by rwa [pow_succ', ] at hv
  simp only [sext, Nat.add_sub_cancel, hp]
  split <;> omega

end Sys2Proof.Machine
end

