-- ==== Sys2Proof/Laws/State.lean ====
section
/-! SUPPORT. One lemma per field per update of the state, true by `rfl`: later proofs never unfold a record update. -/

namespace Sys2Proof.Machine

variable (s : State)


/-! ### The constants of R9 -/

@[simp] theorem rdTimeout_eq : Config.rdTimeout = 1500 := rfl
@[simp] theorem wrTimeout_eq : Config.wrTimeout = 500 := rfl
@[simp] theorem readLen_eq : Config.readLen = 3 := rfl

/-! ### `accept` (R27) -/

@[simp] theorem accept_cfg : (accept s).cfg = s.cfg := rfl
@[simp] theorem accept_sstate : (accept s).sstate = s.sstate := rfl
@[simp] theorem accept_busy : (accept s).busy = true := rfl
@[simp] theorem accept_inputs : (accept s).inputs = s.inputs := rfl
@[simp] theorem accept_readAnswers : (accept s).readAnswers = s.readAnswers := rfl
@[simp] theorem accept_writeAnswers : (accept s).writeAnswers = s.writeAnswers := rfl
@[simp] theorem accept_draws : (accept s).draws = s.draws := rfl
@[simp] theorem accept_trace : (accept s).trace = s.trace := rfl
@[simp] theorem accept_responses : (accept s).responses = s.responses := rfl
@[simp] theorem accept_codecOut : (accept s).codecOut = s.codecOut := rfl

/-! ### `respond` (R6, R27) -/

@[simp] theorem respond_cfg (r : Response) : (respond r s).cfg = s.cfg := rfl
@[simp] theorem respond_sstate (r : Response) : (respond r s).sstate = s.sstate := rfl
@[simp] theorem respond_busy (r : Response) : (respond r s).busy = false := rfl
@[simp] theorem respond_inputs (r : Response) : (respond r s).inputs = s.inputs := rfl
@[simp] theorem respond_readAnswers (r : Response) : (respond r s).readAnswers = s.readAnswers := rfl
@[simp] theorem respond_writeAnswers (r : Response) : (respond r s).writeAnswers = s.writeAnswers := rfl
@[simp] theorem respond_draws (r : Response) : (respond r s).draws = s.draws := rfl
@[simp] theorem respond_trace (r : Response) : (respond r s).trace = s.trace := rfl
@[simp] theorem respond_responses (r : Response) : (respond r s).responses = s.responses ++ [r] := rfl
@[simp] theorem respond_codecOut (r : Response) : (respond r s).codecOut = s.codecOut := rfl

/-! ### `memRead` (R40) -/

@[simp] theorem memRead_cfg (a : BusAddr) (n : Nat) : ((memRead a n s).2).cfg = s.cfg := rfl
@[simp] theorem memRead_sstate (a : BusAddr) (n : Nat) : ((memRead a n s).2).sstate = s.sstate := rfl
@[simp] theorem memRead_busy (a : BusAddr) (n : Nat) : ((memRead a n s).2).busy = s.busy := rfl
@[simp] theorem memRead_inputs (a : BusAddr) (n : Nat) : ((memRead a n s).2).inputs = s.inputs := rfl
@[simp] theorem memRead_readAnswers (a : BusAddr) (n : Nat) : ((memRead a n s).2).readAnswers = s.readAnswers.tail := rfl
@[simp] theorem memRead_writeAnswers (a : BusAddr) (n : Nat) : ((memRead a n s).2).writeAnswers = s.writeAnswers := rfl
@[simp] theorem memRead_draws (a : BusAddr) (n : Nat) : ((memRead a n s).2).draws = (if s.readAnswers.isEmpty then s.draws + 1 else s.draws) := rfl
@[simp] theorem memRead_trace (a : BusAddr) (n : Nat) : ((memRead a n s).2).trace = s.trace ++ [.read a n 1500] := rfl
@[simp] theorem memRead_responses (a : BusAddr) (n : Nat) : ((memRead a n s).2).responses = s.responses := rfl
@[simp] theorem memRead_codecOut (a : BusAddr) (n : Nat) : ((memRead a n s).2).codecOut = s.codecOut := rfl

/-! ### `memWrite` (R39) -/

@[simp] theorem memWrite_cfg (a : BusAddr) (b : Byte) : ((memWrite a b s).2).cfg = s.cfg := rfl
@[simp] theorem memWrite_sstate (a : BusAddr) (b : Byte) : ((memWrite a b s).2).sstate = s.sstate := rfl
@[simp] theorem memWrite_busy (a : BusAddr) (b : Byte) : ((memWrite a b s).2).busy = s.busy := rfl
@[simp] theorem memWrite_inputs (a : BusAddr) (b : Byte) : ((memWrite a b s).2).inputs = s.inputs := rfl
@[simp] theorem memWrite_readAnswers (a : BusAddr) (b : Byte) : ((memWrite a b s).2).readAnswers = s.readAnswers := rfl
@[simp] theorem memWrite_writeAnswers (a : BusAddr) (b : Byte) : ((memWrite a b s).2).writeAnswers = s.writeAnswers.tail := rfl
@[simp] theorem memWrite_draws (a : BusAddr) (b : Byte) : ((memWrite a b s).2).draws = (if s.writeAnswers.isEmpty then s.draws + 1 else s.draws) := rfl
@[simp] theorem memWrite_trace (a : BusAddr) (b : Byte) : ((memWrite a b s).2).trace = s.trace ++ [.write a [b] 500] := rfl
@[simp] theorem memWrite_responses (a : BusAddr) (b : Byte) : ((memWrite a b s).2).responses = s.responses := rfl
@[simp] theorem memWrite_codecOut (a : BusAddr) (b : Byte) : ((memWrite a b s).2).codecOut = s.codecOut := rfl

/-! ### `writeCfg` (R11) -/

@[simp] theorem writeCfg_cfg (f : ShadowConfig → ShadowConfig) : (writeCfg f s).cfg = f s.cfg := rfl
@[simp] theorem writeCfg_sstate (f : ShadowConfig → ShadowConfig) : (writeCfg f s).sstate = s.sstate := rfl
@[simp] theorem writeCfg_busy (f : ShadowConfig → ShadowConfig) : (writeCfg f s).busy = s.busy := rfl
@[simp] theorem writeCfg_inputs (f : ShadowConfig → ShadowConfig) : (writeCfg f s).inputs = s.inputs := rfl
@[simp] theorem writeCfg_readAnswers (f : ShadowConfig → ShadowConfig) : (writeCfg f s).readAnswers = s.readAnswers := rfl
@[simp] theorem writeCfg_writeAnswers (f : ShadowConfig → ShadowConfig) : (writeCfg f s).writeAnswers = s.writeAnswers := rfl
@[simp] theorem writeCfg_draws (f : ShadowConfig → ShadowConfig) : (writeCfg f s).draws = s.draws := rfl
@[simp] theorem writeCfg_trace (f : ShadowConfig → ShadowConfig) : (writeCfg f s).trace = s.trace := rfl
@[simp] theorem writeCfg_responses (f : ShadowConfig → ShadowConfig) : (writeCfg f s).responses = s.responses := rfl
@[simp] theorem writeCfg_codecOut (f : ShadowConfig → ShadowConfig) : (writeCfg f s).codecOut = s.codecOut := rfl

/-! ### `setSession` (R22) -/

@[simp] theorem setSession_cfg (x : SessionState) : (setSession x s).cfg = s.cfg := rfl
@[simp] theorem setSession_sstate (x : SessionState) : (setSession x s).sstate = x := rfl
@[simp] theorem setSession_busy (x : SessionState) : (setSession x s).busy = s.busy := rfl
@[simp] theorem setSession_inputs (x : SessionState) : (setSession x s).inputs = s.inputs := rfl
@[simp] theorem setSession_readAnswers (x : SessionState) : (setSession x s).readAnswers = s.readAnswers := rfl
@[simp] theorem setSession_writeAnswers (x : SessionState) : (setSession x s).writeAnswers = s.writeAnswers := rfl
@[simp] theorem setSession_draws (x : SessionState) : (setSession x s).draws = s.draws := rfl
@[simp] theorem setSession_trace (x : SessionState) : (setSession x s).trace = s.trace := rfl
@[simp] theorem setSession_responses (x : SessionState) : (setSession x s).responses = s.responses := rfl
@[simp] theorem setSession_codecOut (x : SessionState) : (setSession x s).codecOut = s.codecOut := rfl

/-! ### `codecEmit` (R8) -/

@[simp] theorem codecEmit_cfg (o : CodecOutput) : (codecEmit o s).cfg = s.cfg := rfl
@[simp] theorem codecEmit_sstate (o : CodecOutput) : (codecEmit o s).sstate = s.sstate := rfl
@[simp] theorem codecEmit_busy (o : CodecOutput) : (codecEmit o s).busy = s.busy := rfl
@[simp] theorem codecEmit_inputs (o : CodecOutput) : (codecEmit o s).inputs = s.inputs := rfl
@[simp] theorem codecEmit_readAnswers (o : CodecOutput) : (codecEmit o s).readAnswers = s.readAnswers := rfl
@[simp] theorem codecEmit_writeAnswers (o : CodecOutput) : (codecEmit o s).writeAnswers = s.writeAnswers := rfl
@[simp] theorem codecEmit_draws (o : CodecOutput) : (codecEmit o s).draws = s.draws := rfl
@[simp] theorem codecEmit_trace (o : CodecOutput) : (codecEmit o s).trace = s.trace := rfl
@[simp] theorem codecEmit_responses (o : CodecOutput) : (codecEmit o s).responses = s.responses := rfl
@[simp] theorem codecEmit_codecOut (o : CodecOutput) : (codecEmit o s).codecOut = s.codecOut ++ [o] := rfl

/-! ### `resetRegisters` (R146) -/

@[simp] theorem resetRegisters_cfg : (resetRegisters s).cfg = State.reset.cfg := rfl
@[simp] theorem resetRegisters_sstate : (resetRegisters s).sstate = .uninitialized := rfl
@[simp] theorem resetRegisters_busy : (resetRegisters s).busy = false := rfl
@[simp] theorem resetRegisters_inputs : (resetRegisters s).inputs = s.inputs := rfl
@[simp] theorem resetRegisters_readAnswers : (resetRegisters s).readAnswers = s.readAnswers := rfl
@[simp] theorem resetRegisters_writeAnswers : (resetRegisters s).writeAnswers = s.writeAnswers := rfl
@[simp] theorem resetRegisters_draws : (resetRegisters s).draws = s.draws := rfl
@[simp] theorem resetRegisters_trace : (resetRegisters s).trace = s.trace := rfl
@[simp] theorem resetRegisters_responses : (resetRegisters s).responses = s.responses := rfl
@[simp] theorem resetRegisters_codecOut : (resetRegisters s).codecOut = s.codecOut := rfl

/-! ### The answers the transport gives next do not depend on the registers -/

@[simp] theorem readAnswer_accept : (accept s).readAnswer = s.readAnswer := rfl
@[simp] theorem writeAnswer_accept : (accept s).writeAnswer = s.writeAnswer := rfl
@[simp] theorem readAnswer_writeCfg (f : ShadowConfig → ShadowConfig) : (writeCfg f s).readAnswer = s.readAnswer := rfl
@[simp] theorem writeAnswer_writeCfg (f : ShadowConfig → ShadowConfig) : (writeCfg f s).writeAnswer = s.writeAnswer := rfl
@[simp] theorem memRead_answer (a : BusAddr) (n : Nat) : (memRead a n s).1 = s.readAnswer := rfl
@[simp] theorem memWrite_answer (a : BusAddr) (b : Byte) : (memWrite a b s).1 = s.writeAnswer := rfl

/-! ### The shadow configuration -/

variable (c : ShadowConfig) (f : StatusFields)

@[simp] theorem refreshed_ch : (c.refreshed f).ch = f.ch := rfl
@[simp] theorem refreshed_mode : (c.refreshed f).mode = f.mode := rfl
@[simp] theorem refreshed_ss : (c.refreshed f).ss = f.ss := rfl
@[simp] theorem refreshed_pga : (c.refreshed f).pga = f.pga := rfl
@[simp] theorem refreshed_ds : (c.refreshed f).ds = f.ds := rfl
@[simp] theorem refreshed_trig : (c.refreshed f).trig = c.trig := rfl

end Sys2Proof.Machine
end

