-- ==== Sys2Proof/Laws/Ops.lean ====
section
/-! SUPPORT. One lemma per shared operation that says all it does: later proofs cite these and do not unfold. -/

namespace Sys2Proof.Machine

variable (s : State)

@[simp] theorem respondOk_eq (d : RspData) : respondOk d s = respond (.ok d) s := rfl
@[simp] theorem raiseError_eq (k : ErrorKind) : raiseError k s = respond (.error k) s := rfl
@[simp] theorem push_eq : push s = memWrite .busAddr (controlByte s.cfg) s := rfl
@[simp] theorem readFrame_eq : readFrame s = memRead .busAddr 3 s := rfl
@[simp] theorem refresh_eq (b2 : Byte) : refresh b2 s = writeCfg (ShadowConfig.refreshed (decodeByte b2)) s := rfl
@[simp] theorem setTrig_eq (t : TriggerIntent) : setTrig t s = writeCfg (fun c => { c with trig := t }) s := rfl

/-- A command is one step: it answers a next state (R12). -/
theorem runCommand_eq (body : State → State) : runCommand body s = .next (body (accept s)) := rfl

variable {s}

/-- The session-state check passes exactly when SSTATE is `Initialized` (R127). -/
theorem whenInitialized_pass (body : State → State) (h : s.sstate = .initialized) : whenInitialized body s = body s := if_pos h

/-- Otherwise the command is refused, before any other effect (R127). -/
theorem whenInitialized_refuse (body : State → State) (h : s.sstate ≠ .initialized) :
    whenInitialized body s = respond (.error .notInitialized) s := if_neg h

/-- A command in an initialized session runs its body on the accepted state (R27, R127). -/
theorem runCommand_pass (body : State → State) (h : s.sstate = .initialized) :
    runCommand (whenInitialized body) s = .next (body (accept s)) :=
  congrArg _ (whenInitialized_pass (s := accept s) body h)

/-- A command before a successful INIT only gives its response (R127). -/
theorem runCommand_refuse (body : State → State) (h : s.sstate ≠ .initialized) :
    runCommand (whenInitialized body) s = .next (respond (.error .notInitialized) (accept s)) :=
  congrArg _ (whenInitialized_refuse (s := accept s) body h)

/-- The two reports of a writing command. -/
theorem reportWrite_cases (a : WriteAnswer) (s : State) :
    (a = .ok ∧ reportWrite a s = respond (.ok 0) s) ∨ (a = .err ∧ reportWrite a s = respond (.error .transportWriteError) s) := by
  cases a
  case ok => exact .inl ⟨rfl, rfl⟩
  case err => exact .inr ⟨rfl, rfl⟩

/-- A writing command's report is one response, chosen by the transport's answer (R106 to R110). -/
theorem reportWrite_eq (a : WriteAnswer) (s : State) :
    reportWrite a s = respond (match a with | .ok => .ok 0 | .err => .error .transportWriteError) s := by
  cases a <;> rfl

/-- The session state after INIT's failure path is never `Uninitialized`, and `Initialized` stays (R99). -/
theorem initFailed_sstate (s : State) :
    (initFailed s).sstate = if s.sstate = .initialized then .initialized else .failed := by
  unfold initFailed
  split
  case isTrue h => exact h
  case isFalse => rfl

/-- INIT's failure path is a write of SSTATE and nothing else (R99). -/
theorem initFailed_eq (s : State) :
    initFailed s = setSession (if s.sstate = .initialized then .initialized else .failed) s := by
  unfold initFailed
  split
  case isTrue h => simp [setSession, ← h]
  case isFalse => rfl

/-- A step with nothing at the inputs is idle. -/
theorem step_idle (h : s.inputs = []) : step s = .next s := by
  simp [step, h]

/-- A step with `p` first at the inputs takes `p`. -/
theorem step_input {p : PortInput} {rest : List PortInput} (h : s.inputs = p :: rest) :
    step s = takeInput p s { s with inputs := rest } := by
  simp [step, h]

end Sys2Proof.Machine
end

