-- ==== Sys2Proof/Laws/Exec.lean ====
section
/-! SUPPORT. Said once: what an operation that answers a next state has done. It was refused with `NotInitialized` and did nothing
else, or it had its effect; later proofs split on this and never unfold `exec`. -/

namespace Sys2Proof.Machine

/-- The state an operation leads to when it is not refused. -/
def effect (i : Instr) (s : State) : State :=
  match i with
  | .init => initBody (accept s)
  | .readSample => readSampleBody (accept s)
  | .setChannel ch => pushAndReport (writeCfg (fun c => { c with ch := ch }) (accept s))
  | .setMode m => pushAndReport (writeCfg (fun c => { c with mode := m }) (accept s))
  | .setSample ss => pushAndReport (writeCfg (fun c => { c with ss := ss }) (accept s))
  | .setPga g => pushAndReport (writeCfg (fun c => { c with pga := g }) (accept s))
  | .getChannel => respondOk (s.cfg.ch.index.setWidth 17) (accept s)
  | .getMode => respondOk (s.cfg.mode.bit.setWidth 17) (accept s)
  | .getSample => respondOk (s.cfg.ss.index.setWidth 17) (accept s)
  | .getPga => respondOk (s.cfg.pga.index.setWidth 17) (accept s)
  | .trigger => triggerBody (accept s)
  | .codecEncode t ch m ss g => codecEmit (.controlByte (encodeByte t ch m ss g)) s
  | .codecDecode b => codecEmit (.statusFields (decodeByte b)) s

variable {s t : State} {i : Instr}

/-- In an initialized session every operation has its effect. -/
theorem exec_of_initialized (h : s.sstate = .initialized) : exec i s = .next (effect i s) := by
  cases i <;> first | exact runCommand_pass _ h | rfl

/-- Before a successful INIT every other command is refused (R127). -/
theorem exec_of_refused (h : s.sstate ≠ .initialized) (hi : i ≠ .init) (hc : i.isHostCommand = true) :
    exec i s = .next (respond (.error .notInitialized) (accept s)) := by
  cases i
  case init => exact absurd rfl hi
  case codecEncode => cases hc
  case codecDecode => cases hc
  all_goals exact runCommand_refuse _ h

/-- What an operation that answers a next state has done. -/
theorem exec_cases (h : exec i s = .next t) :
    (s.sstate ≠ .initialized ∧ i ≠ .init ∧ i.isHostCommand = true ∧ t = respond (.error .notInitialized) (accept s)) ∨
    ((s.sstate = .initialized ∨ i = .init ∨ i.isHostCommand = false) ∧ t = effect i s) := by
  by_cases hs : s.sstate = .initialized
  · rw [exec_of_initialized hs] at h
    cases h
    exact .inr ⟨.inl hs, rfl⟩
  by_cases hi : i = .init
  · subst hi
    cases h
    exact .inr ⟨.inr (.inl rfl), rfl⟩
  by_cases hc : i.isHostCommand = true
  · rw [exec_of_refused hs hi hc] at h
    cases h
    exact .inl ⟨hs, hi, hc, rfl⟩
  · refine .inr ⟨.inr (.inr (by simpa using hc)), ?_⟩
    cases i <;> first | exact absurd rfl hc | (cases h; rfl)

/-- What a command word that was accepted has done: its command ran, or it was illegal and only answered (R77). -/
theorem runWord_cases {w : Byte} (h : runWord w s = .next t) :
    (∃ i, decode w = .ok i ∧ exec i s = .next t) ∨
    ((∃ e, decode w = .error e) ∧ t = respond (.error .illegalCommand) (accept s)) := by
  unfold runWord at h
  split at h
  case h_1 i hd => exact .inl ⟨i, hd, h⟩
  case h_2 e hd =>
    cases h
    exact .inr ⟨⟨e, hd⟩, rfl⟩

end Sys2Proof.Machine
end

