-- ==== Sys2Proof/Laws/PerInstr.lean ====
section
/-! SUPPORT. Statements made for every operation, one lemma per constructor of `Instr`. -/

/-- The word of a command selects its own row of R76's map and no other: no two rows overlap on it. -/
def Sys2Proof.Laws.WordSelectsOwnRow.Statement (i : Sys2Proof.Instr) : Prop :=
  ∀ w, Sys2Proof.encode i = some w → (Sys2Proof.opcodeRows.filter (·.selects w)).map (·.mnemonic) = [i.mnemonic]

namespace Sys2Proof.Laws.WordSelectsOwnRow

theorem init : Statement .init := by rintro w ⟨⟩; decide
theorem readSample : Statement .readSample := by rintro w ⟨⟩; decide
theorem setChannel (ch : Channel) : Statement (.setChannel ch) := by rintro w ⟨⟩; cases ch <;> decide
theorem setMode (m : ConversionMode) : Statement (.setMode m) := by rintro w ⟨⟩; cases m <;> decide
theorem setSample (ss : SampleSetting) : Statement (.setSample ss) := by rintro w ⟨⟩; cases ss <;> decide
theorem setPga (g : PgaGain) : Statement (.setPga g) := by rintro w ⟨⟩; cases g <;> decide
theorem getChannel : Statement .getChannel := by rintro w ⟨⟩; decide
theorem getMode : Statement .getMode := by rintro w ⟨⟩; decide
theorem getSample : Statement .getSample := by rintro w ⟨⟩; decide
theorem getPga : Statement .getPga := by rintro w ⟨⟩; decide
theorem trigger : Statement .trigger := by rintro w ⟨⟩; decide
theorem codecEncode (t : TriggerIntent) (ch : Channel) (m : ConversionMode) (ss : SampleSetting) (g : PgaGain) :
    Statement (.codecEncode t ch m ss g) := by rintro w ⟨⟩
theorem codecDecode (b : Byte) : Statement (.codecDecode b) := by rintro w ⟨⟩

end Sys2Proof.Laws.WordSelectsOwnRow
end

