-- ==== Sys2Proof/Tests/Slice0.lean ====
section
/-! SUPPORT. The model's own tests. Expected values are the spec's: 95_test_vectors.md (sections 2.1 to 2.8, and the source's own
examples S3, S4, S6, S7), or the words of 30_encoding.md R76 and R77. Then a witness for the hypotheses of each statement. -/

open Sys2Proof Sys2Proof.Machine Sys2Proof.Spec

namespace Sys2Proof.Tests

/-- The next state, if there is one. -/
def next? : Host.Outcome State Fault Refusal → Option State
  | .next t => some t
  | .fault _ => none
  | .refused _ => none

/-- The start state of 95_test_vectors.md section 2.7: Initialized, (Updated, CH2, OneShot, 60/14, 2X). -/
def live : State :=
  { State.reset with
    sstate := .initialized
    cfg := { ch := .ch2, mode := .oneShot, ss := .hz60bits14, pga := .x2, ds := .updated, trig := .none } }

/-- What a run of `i` gives: CFG, bus requests, responses. -/
def seen (i : Instr) (s : State) : Option (ShadowConfig × List BusRequest × List Response) :=
  (next? (exec i s)).map fun t => (t.cfg, t.trace, t.responses)

/-- What one step gives: session state, bus requests, responses. -/
def stepSeen (s : State) : Option (SessionState × List BusRequest × List Response) :=
  (next? (step s)).map fun t => (t.sstate, t.trace, t.responses)

/-! ## Well-formed command words: an ill-formed word for each check (R77) -/

theorem test_wf_legal : (commandFields 0x42#8).wellFormed = true := by decide
theorem test_wf_op : (commandFields 0xB0#8).opAssigned = false := by decide
theorem test_wf_z : (commandFields 0x24#8).zIsZero = false := by decide
theorem test_wf_arg : (commandFields 0x61#8).unusedArgIsZero = false := by decide
theorem test_wf_mode : (commandFields 0x32#8).modeArgLegal = false := by decide
theorem test_wf_sample : (commandFields 0x43#8).sampleArgLegal = false := by decide
theorem test_wf_count : ((List.range 256).filter fun n => (commandFields (BitVec.ofNat 8 n)).wellFormed).length = 20 := by decide

/-! ## Decoding: R76's words, bit by bit (op, z, arg) -/

theorem test_decode_init : decode 0b0000_00_00#8 = .ok .init := by decide
theorem test_decode_readSample : decode 0b0001_00_00#8 = .ok .readSample := by decide
theorem test_decode_setChannel : decode 0b0010_00_10#8 = .ok (.setChannel .ch3) := by decide
theorem test_decode_setMode : decode 0b0011_00_01#8 = .ok (.setMode .continuous) := by decide
theorem test_decode_setSample : decode 0b0100_00_01#8 = .ok (.setSample .hz60bits14) := by decide
theorem test_decode_setPga : decode 0b0101_00_11#8 = .ok (.setPga .x8) := by decide
theorem test_decode_getChannel : decode 0b0110_00_00#8 = .ok .getChannel := by decide
theorem test_decode_getMode : decode 0b0111_00_00#8 = .ok .getMode := by decide
theorem test_decode_getSample : decode 0b1000_00_00#8 = .ok .getSample := by decide
theorem test_decode_getPga : decode 0b1001_00_00#8 = .ok .getPga := by decide
theorem test_decode_trigger : decode 0b1010_00_00#8 = .ok .trigger := by decide
theorem test_decode_illegal :
    [0x01#8, 0x04#8, 0x24#8, 0x32#8, 0x33#8, 0x43#8, 0x5C#8, 0x83#8, 0xA1#8, 0xB0#8, 0xC5#8, 0xFF#8].map (decode · |>.isOk) =
      List.replicate 12 false := by decide
theorem test_table_word : decodeTableWord 8 0x42 = some (.setSample .hz15bits16) ∧ decodeTableWord 8 0x43 = none := by decide
theorem test_fetch_word : stepSeen (live.withFetchWord 8 0x60) = some (.initialized, [], [.ok 1]) := by decide

/-! ## The codec -/

theorem test_encode : seen (.codecEncode .none .ch3 .oneShot .hz15bits16 .x4) State.reset = some (State.reset.cfg, [], []) ∧
    encodeByte .none .ch3 .oneShot .hz15bits16 .x4 = 0x4A#8 := by decide
theorem test_encode_largest : encodeByte .trigger .ch4 .continuous .hz15bits16 .x8 = 0xFB#8 := by decide
theorem test_decode_status : decodeByte 0x9D#8 = ⟨.notUpdated, .ch1, .continuous, .hz15bits16, .x2⟩ := by decide
theorem test_decode_status_output :
    (next? (exec (.codecDecode 0x5E#8) live)).map (·.codecOut) =
      some [.statusFields ⟨.updated, .ch3, .continuous, .hz15bits16, .x4⟩] := by decide
theorem test_sampleValue_12 : sampleValue .full16 0xAB#8 0xCD#8 .hz240bits12 = -21555 ∧
    sampleValue .toResolution 0xAB#8 0xCD#8 .hz240bits12 = -1075 := by decide
theorem test_sampleValue_14 : sampleValue .full16 0x20#8 0x00#8 .hz60bits14 = 8192 ∧
    sampleValue .toResolution 0x20#8 0x00#8 .hz60bits14 = -8192 := by decide
theorem test_decodeFrame : decodeFrame 0xFF#8 0xFE#8 0xE5#8 = (⟨.notUpdated, .ch4, .oneShot, .hz60bits14, .x2⟩, -2) := by decide

/-! ## The commands (section 2.7, rows by number) -/

/-- Row 1. -/
theorem test_init : seen .init { live with readAnswers := [.ok 0xAA 0xBB 0xFF] } =
    some (⟨.ch4, .continuous, .hz15bits16, .x8, .notUpdated, .none⟩, [.read .busAddr 3 1500], [.ok 0]) := by decide
/-- Row 3. -/
theorem test_init_fails : stepSeen { State.reset with inputs := [.command 0x00], readAnswers := [.err] } =
    some (.failed, [.read .busAddr 3 1500], [.error .transportReadError]) := by decide
/-- Row 5. -/
theorem test_readSample : seen .readSample { live with readAnswers := [.ok 0xFF 0xFE 0xE5] } =
    some (⟨.ch4, .oneShot, .hz60bits14, .x2, .notUpdated, .none⟩, [.read .busAddr 3 1500], [.ok 0x1FFFE]) := by decide
/-- S3, the source's example. -/
theorem test_readSample_source : seen .readSample { live with readAnswers := [.ok 0x01 0x00 0x00] } =
    some (⟨.ch1, .oneShot, .hz240bits12, .x1, .updated, .none⟩, [.read .busAddr 3 1500], [.ok 0x00100]) := by decide
/-- Row 8. -/
theorem test_setChannel : seen (.setChannel .ch4) { live with writeAnswers := [.ok] } =
    some ({ live.cfg with ch := .ch4 }, [.write .busAddr [0x65] 500], [.ok 0]) := by decide
/-- Row 9. -/
theorem test_setChannel_fails : seen (.setChannel .ch4) { live with writeAnswers := [.err] } =
    some ({ live.cfg with ch := .ch4 }, [.write .busAddr [0x65] 500], [.error .transportWriteError]) := by decide
/-- Row 11. -/
theorem test_setMode : seen (.setMode .continuous) { live with writeAnswers := [.ok] } =
    some ({ live.cfg with mode := .continuous }, [.write .busAddr [0x35] 500], [.ok 0]) := by decide
/-- Row 13. -/
theorem test_setSample_fails : seen (.setSample .hz15bits16) { live with writeAnswers := [.err] } =
    some ({ live.cfg with ss := .hz15bits16 }, [.write .busAddr [0x29] 500], [.error .transportWriteError]) := by decide
/-- Row 14. -/
theorem test_setPga : seen (.setPga .x8) { live with writeAnswers := [.ok] } =
    some ({ live.cfg with pga := .x8 }, [.write .busAddr [0x27] 500], [.ok 0]) := by decide
/-- Row 15: refused from `Failed`, the shadow not written. -/
theorem test_setPga_refused : seen (.setPga .x1) { live with sstate := .failed } = some (live.cfg, [], [.error .notInitialized]) := by
  decide
/-- Row 16. -/
theorem test_getChannel : seen .getChannel live = some (live.cfg, [], [.ok 1]) := by decide
/-- Row 17. -/
theorem test_getMode : seen .getMode live = some (live.cfg, [], [.ok 0]) := by decide
/-- Row 18. -/
theorem test_getSample : seen .getSample live = some (live.cfg, [], [.ok 1]) := by decide
/-- Row 19. -/
theorem test_getPga : seen .getPga live = some (live.cfg, [], [.ok 1]) := by decide
/-- Row 22. -/
theorem test_trigger_fails : seen .trigger { live with writeAnswers := [.err] } =
    some (live.cfg, [.write .busAddr [0xA5] 500], [.error .transportWriteError]) := by decide
/-- Row 23. -/
theorem test_trigger_continuous : seen .trigger { live with cfg := { live.cfg with mode := .continuous }, writeAnswers := [.ok] } =
    some ({ live.cfg with mode := .continuous }, [.write .busAddr [0xB5] 500], [.ok 0]) := by decide
/-- Row 25: `IllegalCommand`, not `NotInitialized`. -/
theorem test_illegal : stepSeen { State.reset with inputs := [.command 0x43] } = some (.uninitialized, [], [.error .illegalCommand]) := by
  decide
/-- R148: the write had gone out; there is no response, and SSTATE is as after reset. -/
theorem test_reset_during : stepSeen { live with inputs := [.resetDuring 0x53 true], writeAnswers := [.ok] } =
    some (.uninitialized, [.write .busAddr [0x27] 500], []) := by decide
/-- R146. -/
theorem test_reset : stepSeen { live with inputs := [.reset] } = some (.uninitialized, [], []) := by decide
/-- R78. -/
theorem test_response_codes : [ErrorKind.transportReadError, .transportWriteError, .notInitialized, .protocolError, .illegalCommand].map
    ErrorKind.code = [1, 2, 3, 4, 5] := by decide
/-- Section 2.8. -/
theorem test_converters : converterFactor 32767 = 2048 / 1000 ∧ convertDataToVoltage (-32768) = -671088640 / 104756099 ∧
    convertDataToDischargeCurrent 32767 = 1024 / 100 := by
  norm_num [converterFactor, convertDataToVoltage, convertDataToDischargeCurrent]

/-! ## Witnesses: the hypotheses of each statement can be met together -/

/-- The start state with a good read and a good write to come. -/
def liveOk : State := { live with readAnswers := [.ok 0xFF 0xFE 0xE5], writeAnswers := [.ok] }
/-- The start state with a failing read and a failing write to come. -/
def liveErr : State := { live with readAnswers := [.err], writeAnswers := [.err] }

theorem witness_StepRunsTheDecodedCommand :
    ({ live with inputs := [.command 0x23] } : State).inputs = .command 0x23 :: [] ∧ live.busy = false ∧
      decode 0x23 = .ok (.setChannel .ch4) := by decide
theorem witness_IllegalWordIsRefusedInEveryState :
    ({ live with inputs := [.command 0x43] } : State).inputs = .command 0x43 :: [] ∧ live.busy = false ∧
      decode 0x43 = .error .reservedSample := by decide
theorem witness_StepTakesOtherInputs_idle : State.reset.inputs = [] := by decide
theorem witness_StepTakesOtherInputs_busy :
    ({ live with busy := true, inputs := [.command 0x00] } : State).inputs = .command 0x00 :: [] ∧
      ({ live with busy := true, inputs := [.command 0x00] } : State).busy = true := by decide
theorem witness_StepTakesOtherInputs_encode :
    ({ live with inputs := [.encode .trigger .ch4 .continuous .hz15bits16 .x8] } : State).inputs =
      .encode .trigger .ch4 .continuous .hz15bits16 .x8 :: [] := by decide
theorem witness_StepTakesOtherInputs_decode : ({ live with inputs := [.decode 0xFF] } : State).inputs = .decode 0xFF :: [] := by decide
theorem witness_PresentedWordRunsNext : decodeTableWord 8 0xA0 = some .trigger := by decide
theorem witness_DecodeAndEncodeAgree_encode : (Instr.setSample .hz15bits16).isHostCommand = true := by decide
theorem witness_DecodeAndEncodeAgree_decode : decode 0x53 = .ok (.setPga .x8) := by decide
theorem witness_EncodeIsInjectiveOntoUnreservedBytes :
    encodeByte .trigger .ch4 .continuous .hz15bits16 .x8 = encodeByte .trigger .ch4 .continuous .hz15bits16 .x8 := by decide
theorem witness_SampleValueIsOneOfTwoReadings :
    ({ live with inputs := [.sampleValue 0x80 0x00 .hz240bits12] } : State).inputs = .sampleValue 0x80 0x00 .hz240bits12 :: [] := by decide
theorem witness_SampleValueFitsItsRange_12 : sampleValue .toResolution 0x08#8 0x00#8 .hz240bits12 = -2048 := by decide
theorem witness_SampleValueFitsItsRange_14 : sampleValue .toResolution 0x1F#8 0xFF#8 .hz60bits14 = 8191 := by decide
theorem witness_InitSeedsTheShadow : ({ liveOk with sstate := .failed } : State).readAnswer = .ok 0xFF 0xFE 0xE5 := by decide
theorem witness_FailedInitKeepsTheShadow : ({ State.reset with readAnswers := [.err] } : State).readAnswer = .err := by decide
theorem witness_ReadSampleReturnsTheFrame : liveOk.sstate = .initialized ∧ liveOk.readAnswer = .ok 0xFF 0xFE 0xE5 := by decide
theorem witness_FailedReadSampleChangesNothing : liveErr.sstate = .initialized ∧ liveErr.readAnswer = .err := by decide
theorem witness_SuccessfulReadDiscardsLocalSettings_readSample :
    (Instr.readSample = .readSample ∧ liveOk.sstate = .initialized ∧
      ({ liveOk with cfg := State.reset.cfg } : State).sstate = .initialized) ∧
    liveOk.readAnswer = .ok 0xFF 0xFE 0xE5 ∧ ({ liveOk with cfg := State.reset.cfg } : State).readAnswer = .ok 0xFF 0xFE 0xE5 := by decide
theorem witness_SuccessfulReadDiscardsLocalSettings_init :
    ({ State.reset with readAnswers := [.ok 0 0 0x25] } : State).readAnswer = .ok 0 0 0x25 ∧
      ({ live with readAnswers := [.ok 0 0 0x25] } : State).readAnswer = .ok 0 0 0x25 := by decide
theorem witness_SettersSetOneFieldAndPush : liveOk.sstate = .initialized ∧ liveOk.writeAnswer = .ok := by decide
theorem witness_FailedWriteIsNotRolledBack : liveErr.sstate = .initialized ∧ liveErr.writeAnswer = .err := by decide
theorem witness_TriggerIsAPulseInEitherMode_oneShot :
    liveOk.cfg.mode = .oneShot ∧ liveOk.sstate = .initialized ∧ liveOk.writeAnswer = .ok := by decide
theorem witness_TriggerIsAPulseInEitherMode_continuous :
    ({ liveOk with cfg := { liveOk.cfg with mode := .continuous } } : State).cfg.mode = .continuous ∧
    ({ liveOk with cfg := { liveOk.cfg with mode := .continuous } } : State).writeAnswer = .ok := by decide
theorem witness_OnlyTriggerWritesBitSeven_trigger :
    liveOk.cfg.trig = .none ∧ (next? (exec .trigger liveOk)).map (·.trace) = some (liveOk.trace ++ [.write .busAddr [0xA5] 500]) := by decide
theorem witness_OnlyTriggerWritesBitSeven_setter :
    (next? (exec (.setPga .x8) liveOk)).map (·.trace) = some (liveOk.trace ++ [.write .busAddr [0x27] 500]) := by decide
theorem witness_GettersReturnTheShadow : live.sstate = .initialized := by decide
theorem witness_GetterReturnsTheValueJustSet : liveErr.sstate = .initialized := by decide
theorem witness_CommandsBeforeInitAreRefused :
    ({ live with sstate := .failed } : State).sstate ≠ .initialized ∧ Instr.trigger.isHostCommand = true ∧ Instr.trigger ≠ .init := by decide
theorem witness_EachCommandEndsOnlyWithItsOwnErrors :
    Instr.readSample.isHostCommand = true ∧
      (next? (exec .readSample liveErr)).map (·.responses) = some (liveErr.responses ++ [.error .transportReadError]) := by decide
theorem witness_OperationsWriteOnlyTheirOwnFields :
    (next? (exec (.setMode .continuous) liveOk)).isSome = true ∧ mayWrite (.setMode .continuous) .ch = false := by decide
theorem witness_OperationsWriteOnlyTheirOwnFields_refused :
    (next? (exec (.setMode .continuous) State.reset)).isSome = true ∧ Instr.setMode .continuous ≠ .init ∧
      State.reset.sstate ≠ .initialized := by decide
theorem witness_DataStatusComesOnlyFromReads :
    (next? (exec .readSample liveOk)).map (·.cfg.ds) = some .notUpdated ∧ (next? (exec .readSample liveErr)).map (·.cfg.ds) = some .updated ∧
      (next? (exec .trigger liveOk)).map (·.cfg.ds) = some .updated := by decide
theorem witness_OnlyInitWritesTheSessionState :
    (next? (exec .init { State.reset with readAnswers := [.err] })).map (·.sstate) = some .failed := by decide
theorem witness_InitializedLastsUntilReset :
    live.sstate = .initialized ∧ (∀ rest, live.inputs ≠ .reset :: rest) ∧ (∀ w issued rest, live.inputs ≠ .resetDuring w issued :: rest) ∧
      step live = .next live :=
  ⟨rfl, fun _ => nofun, fun _ _ _ => nofun, rfl⟩
theorem witness_EachCommandMakesAtMostOneBusRequest :
    (next? (exec .init liveOk)).isSome = true ∧ (next? (exec (.setPga .x8) liveOk)).isSome = true ∧
      (next? (exec .getPga liveOk)).isSome = true ∧ (next? (exec .getPga State.reset)).isSome = true := by decide
theorem witness_LastWrittenByteDecodesToTheShadow :
    liveErr.sstate = .initialized ∧ isWriting (.setChannel .ch4) = true ∧ (next? (exec (.setChannel .ch4) liveErr)).isSome = true := by decide
theorem witness_ReadThenSetterWritesTheEchoBack_reserved :
    live.sstate = .initialized ∧ live.cfg.trig = .none ∧
      ({ live with readAnswers := [.ok 0 0 0x9D] } : State).readAnswer = .ok 0 0 0x9D ∧ (0x9D#8).toNat / 4 % 4 = 3 := by decide
theorem witness_ReadThenSetterWritesTheEchoBack_unreserved :
    live.sstate = .initialized ∧ live.cfg.trig = .none ∧
      ({ live with readAnswers := [.ok 0 0 0xFB] } : State).readAnswer = .ok 0 0 0xFB ∧ (0xFB#8).toNat / 4 % 4 ≠ 3 := by decide
theorem witness_ResetInputSendsNothing : ({ live with inputs := [.reset] } : State).inputs = .reset :: [] := by decide
theorem witness_ResetAbandonsTheCommandInProgress :
    ({ liveOk with inputs := [.resetDuring 0x10 true] } : State).inputs = .resetDuring 0x10 true :: [] ∧ liveOk.busy = false ∧
      (next? (step { liveOk with inputs := [.command 0x10] })).isSome = true := by decide
theorem witness_StepKeepsTheInvariant : live.Inv ∧ step live = .next live := ⟨⟨rfl, rfl, nofun, nofun⟩, rfl⟩
theorem witness_UnseededShadowIsUnobservable :
    SameButUnseeded State.reset { State.reset with cfg := { live.cfg with trig := .none } } ∧ State.reset.cfg ≠ live.cfg :=
  ⟨⟨rfl, rfl, nofun, rfl, rfl, rfl, rfl, rfl, rfl, rfl, rfl⟩, by decide⟩
theorem witness_FailedLooksLikeUninitialized : SameButFailed State.reset { State.reset with sstate := .failed } :=
  ⟨rfl, ⟨nofun, nofun⟩, rfl, rfl, rfl, rfl, rfl, rfl, rfl, rfl⟩
theorem witness_EveryWordGetsExactlyOneResponse :
    live.busy = false ∧ ({ live with inputs := [.command 0x43, .command 0x00] } : State).inputs = [0x43#8, 0x00#8].map .command := by decide

end Sys2Proof.Tests
end

section
/-! PROOFS. 00_scope.md: a presented word runs next, and every word of a run gets its one response (R6, R59, R165). What one accepted
command does to the outputs is said once (`Completes`); the claim about a whole run is the induction on the words over it. -/

open Sys2Proof Sys2Proof.Machine

namespace Sys2Proof.Machine

variable {s t u : State} {w : Byte} {i : Instr} {rest : List PortInput}

/-! ### Which words run, and what a step makes of one -/

/-- The check of an unused operand never changes the command (R83). -/
theorem eq_of_noOperand {arg : BitVec 2} {j : Instr} (h : noOperand arg j = .ok i) : i = j := by
  unfold noOperand at h
  split at h <;> cases h
  rfl

/-- A mapped result comes from a result. -/
theorem exists_of_map_ok {α : Type} {f : α → Instr} {x : Except IllegalWord α} (h : x.map f = .ok i) : ∃ a, i = f a := by
  cases x with
  | error e => cases h
  | ok a => cases h; exact ⟨a, rfl⟩

/-- The opcode map holds host commands only (R76). -/
theorem decodeOp_isHostCommand {op : BitVec 4} {arg : BitVec 2} (h : decodeOp op arg = .ok i) : i.isHostCommand = true := by
  unfold decodeOp at h
  split at h
  case h_3 => cases h; rfl
  case h_4 => obtain ⟨m, rfl⟩ := exists_of_map_ok h; rfl
  case h_5 => obtain ⟨ss, rfl⟩ := exists_of_map_ok h; rfl
  case h_6 => cases h; rfl
  case h_12 => cases h
  all_goals cases eq_of_noOperand h; rfl

/-- No command word decodes to a codec function (R76, entry 7). -/
theorem decode_isHostCommand (h : decode w = .ok i) : i.isHostCommand = true := by
  unfold decode at h
  split at h
  case isTrue => exact decodeOp_isHostCommand h
  case isFalse => cases h

/-- A table word that decodes is a command word that decodes (R75, R80). -/
theorem decode_of_decodeTableWord {nbits n : Nat} (h : decodeTableWord nbits n = some i) : decode (BitVec.ofNat 8 n) = .ok i := by
  unfold decodeTableWord at h
  split at h
  case isFalse => cases h
  case isTrue =>
    split at h
    case h_1 j hd => cases h; exact hd
    case h_2 => cases h

/-- A legal word runs its command (R75). -/
theorem runWord_of_decode_ok (h : decode w = .ok i) : runWord w s = exec i s := by
  simp [runWord, h]

/-- An illegal word is only answered (R77). -/
theorem runWord_of_decode_error {e : IllegalWord} (h : decode w = .error e) :
    runWord w s = .next (respond (.error .illegalCommand) (accept s)) := by
  simp [runWord, h]

/-- With BUSY = 0 the word in front is accepted and run (R6). -/
theorem step_command (h : s.inputs = .command w :: rest) (hb : s.busy = false) : step s = runWord w { s with inputs := rest } := by
  simp [step_input h, takeInput, offerWord, hb]

/-- Settles O4: the presented word stands in front with BUSY = 0, so the step accepts it, and it decodes to the command. -/
theorem presentedWordRunsNext : Obligations.PresentedWordRunsNext := by
  intro s n i h
  calc step (s.withFetchWord 8 n)
      = runWord (BitVec.ofNat 8 n) { s with busy := false } := step_command rfl rfl
    _ = exec i { s with busy := false } := runWord_of_decode_ok (decode_of_decodeTableWord h)

/-! ### What one command does to the outputs -/

/-- `t` is idle and has `n` more responses than `s` and at most `n` more bus requests, all after those of `s`. -/
structure Answers (n : Nat) (s t : State) : Prop where
  busy : t.busy = false
  responses : ∃ rs : List Response, t.responses = s.responses ++ rs ∧ rs.length = n
  trace : ∃ qs : List BusRequest, t.trace = s.trace ++ qs ∧ qs.length ≤ n

theorem Answers.refl (hb : s.busy = false) : Answers 0 s s := ⟨hb, ⟨[], by simp⟩, ⟨[], by simp⟩⟩

theorem Answers.trans {m n : Nat} (hst : Answers m s t) (htu : Answers n t u) : Answers (m + n) s u := by
  obtain ⟨-, ⟨rs, hrs, hrl⟩, ⟨qs, hqs, hql⟩⟩ := hst
  obtain ⟨hb, ⟨rs', hrs', hrl'⟩, ⟨qs', hqs', hql'⟩⟩ := htu
  exact ⟨hb, ⟨rs ++ rs', by simp [hrs', hrs], by simp [hrl, hrl']⟩,
    ⟨qs ++ qs', by simp [hqs', hqs], by simp only [List.length_append]; omega⟩⟩

/-- Nothing has come out between `s` and `u`, nor been taken in: registers apart, they are the same to the outside. -/
structure Quiet (s u : State) : Prop where
  inputs : u.inputs = s.inputs
  responses : u.responses = s.responses
  trace : u.trace = s.trace

theorem Quiet.accept (s : State) : Quiet s (accept s) := ⟨rfl, rfl, rfl⟩

theorem Quiet.writeCfg (h : Quiet s u) (f : ShadowConfig → ShadowConfig) : Quiet s (writeCfg f u) := ⟨h.inputs, h.responses, h.trace⟩

/-- `u` is reached within a command accepted in `s`, before its response: at most one bus request has gone out (R45). -/
structure InProgress (s u : State) : Prop where
  inputs : u.inputs = s.inputs
  responses : u.responses = s.responses
  trace : ∃ qs : List BusRequest, u.trace = s.trace ++ qs ∧ qs.length ≤ 1

theorem Quiet.inProgress (h : Quiet s u) : InProgress s u := ⟨h.inputs, h.responses, [], by simp [h.trace], by simp⟩

theorem Quiet.memRead (h : Quiet s u) (a : BusAddr) (n : Nat) : InProgress s (memRead a n u).2 :=
  ⟨h.inputs, h.responses, [.read a n 1500], by simp [h.trace], by simp⟩

theorem Quiet.memWrite (h : Quiet s u) (a : BusAddr) (b : Byte) : InProgress s (memWrite a b u).2 :=
  ⟨h.inputs, h.responses, [.write a [b] 500], by simp [h.trace], by simp⟩

theorem InProgress.writeCfg (h : InProgress s u) (f : ShadowConfig → ShadowConfig) : InProgress s (writeCfg f u) :=
  ⟨h.inputs, h.responses, h.trace⟩

theorem InProgress.setSession (h : InProgress s u) (x : SessionState) : InProgress s (setSession x u) :=
  ⟨h.inputs, h.responses, h.trace⟩

/-- The whole of one command leads from `s` to `t`: its one response is given, and no input is touched (R6). -/
structure Completes (s t : State) : Prop extends Answers 1 s t where
  inputs : t.inputs = s.inputs

/-- The response ends the command. -/
theorem InProgress.completes (h : InProgress s u) (r : Response) : Completes s (respond r u) where
  busy := rfl
  responses := ⟨[r], by simp [h.responses], rfl⟩
  trace := h.trace
  inputs := h.inputs

/-- A command that answers at once. -/
theorem completes_respond_accept (r : Response) : Completes s (respond r (accept s)) := (Quiet.accept s).inProgress.completes r

theorem completes_initReport (h : InProgress s u) (a : ReadAnswer) : Completes s (initReport a u) := by
  cases a with
  | ok b0 b1 b2 => exact ((h.writeCfg _).setSession _).completes _
  | err => exact (initFailed_eq u ▸ h.setSession _ : InProgress s (initFailed u)).completes _

theorem completes_readSampleReport (h : InProgress s u) (a : ReadAnswer) : Completes s (readSampleReport a u) := by
  cases a with
  | ok b0 b1 b2 => exact (h.writeCfg _).completes _
  | err => exact h.completes _

theorem completes_reportWrite (h : InProgress s u) (a : WriteAnswer) : Completes s (reportWrite a u) :=
  reportWrite_eq a u ▸ h.completes _

/-- A setter: a register write, then PUSH and its report. -/
theorem completes_pushAndReport (f : ShadowConfig → ShadowConfig) : Completes s (pushAndReport (writeCfg f (accept s))) :=
  completes_reportWrite (((Quiet.accept s).writeCfg f).memWrite _ _) _

/-- Every host command that is not refused gives its one response, after at most one bus request (R6, R45). -/
theorem completes_effect (hi : i.isHostCommand = true) : Completes s (effect i s) := by
  cases i with
  | init => exact completes_initReport (((Quiet.accept s).writeCfg _).memRead _ _) _
  | readSample => exact completes_readSampleReport ((Quiet.accept s).memRead _ _) _
  | setChannel | setMode | setSample | setPga => exact completes_pushAndReport _
  | getChannel | getMode | getSample | getPga => exact completes_respond_accept _
  | trigger => exact completes_reportWrite ((((Quiet.accept s).writeCfg _).memWrite _ _).writeCfg _) _
  | codecEncode | codecDecode => cases hi

/-- So does every host command, refused or not (R127). -/
theorem exec_completes (hc : i.isHostCommand = true) : ∃ t, exec i s = .next t ∧ Completes s t := by
  by_cases hs : s.sstate = .initialized
  · exact ⟨_, exec_of_initialized hs, completes_effect hc⟩
  by_cases hi : i = .init
  · subst hi
    exact ⟨effect .init s, rfl, completes_effect rfl⟩
  · exact ⟨_, exec_of_refused hs hi hc, completes_respond_accept _⟩

/-- So does every command word, legal or not (R77). -/
theorem runWord_completes (w : Byte) (s : State) : ∃ t, runWord w s = .next t ∧ Completes s t := by
  cases hd : decode w with
  | ok i =>
    rw [runWord_of_decode_ok hd]
    exact exec_completes (decode_isHostCommand hd)
  | error e => exact ⟨_, runWord_of_decode_error hd, completes_respond_accept _⟩

/-- A step of an idle RCDS on a command word takes that word and gives its one response. -/
theorem step_command_answers (h : s.inputs = .command w :: rest) (hb : s.busy = false) :
    ∃ t, step s = .next t ∧ t.inputs = rest ∧ Answers 1 s t := by
  obtain ⟨t, hrun, ⟨hbusy, hresp, htrace⟩, hin⟩ := runWord_completes w { s with inputs := rest }
  exact ⟨t, (step_command h hb).trans hrun, hin, hbusy, hresp, htrace⟩

/-! ### Runs -/

theorem run_succ_of_step (h : step s = .next t) (k : Nat) : core.run (k + 1) s = core.run k t := by
  have h' : core.step s = .next t := h
  simp [Host.Core.run, h']

/-- A run over the words at the inputs takes them all and answers each. -/
theorem run_answers_every_word (ws : List Byte) (s : State) (hb : s.busy = false) (hin : s.inputs = ws.map .command) :
    ∃ t, core.run ws.length s = .next t ∧ t.inputs = [] ∧ Answers ws.length s t := by
  induction ws generalizing s with
  | nil => exact ⟨s, rfl, hin, .refl hb⟩
  | cons w ws ih =>
    obtain ⟨u, hstep, hrest, hsu⟩ := step_command_answers hin hb
    obtain ⟨t, hrun, hempty, hut⟩ := ih u hsu.busy hrest
    refine ⟨t, (run_succ_of_step hstep _).trans hrun, hempty, ?_⟩
    simpa [Nat.add_comm] using hsu.trans hut

/-- Settles O44, by induction on the words: each step takes one and answers it, and the outputs of the rest come after. -/
theorem everyWordGetsExactlyOneResponse : Obligations.EveryWordGetsExactlyOneResponse := by
  intro ws s hb hin
  obtain ⟨t, hrun, hempty, hbusy, hresp, htrace⟩ := run_answers_every_word ws s hb hin
  exact ⟨t, hrun, hempty, hbusy, hresp, htrace⟩

end Sys2Proof.Machine
end

section
/-! PROOFS. 10_state.md: what an operation leaves in CFG and SSTATE (R25, R29, R22), what every step keeps (R27, R28, R7, R78), and
that the registers never seeded cannot be seen (R32). What an operation makes of CFG is said once (`cfgAfter`), what a step can do
is said once (`StepsTo`); the claims are read off them. -/

open Sys2Proof Sys2Proof.Machine Sys2Proof.Spec

namespace Sys2Proof.Machine

variable {s t u v : State} {w : Byte} {i : Instr} {rest : List PortInput} {c d : ShadowConfig} {r : Response}

/-! ### What an operation makes of CFG -/

/-- CFG after a bus read: refreshed from the status byte of a good one (R98, R125). -/
def ShadowConfig.afterRead (a : ReadAnswer) (c : ShadowConfig) : ShadowConfig :=
  match a with
  | .ok _ _ b2 => c.refreshed (decodeByte b2)
  | .err => c

@[simp] theorem afterRead_trig (a : ReadAnswer) (c : ShadowConfig) : (c.afterRead a).trig = c.trig := by
  cases a <;> rfl

/-- CFG after an operation that is not refused, `a` being the answer to its read, if it reads. -/
def cfgAfter (i : Instr) (a : ReadAnswer) (c : ShadowConfig) : ShadowConfig :=
  match i with
  | .init => { c with trig := .none }.afterRead a
  | .readSample => c.afterRead a
  | .setChannel ch => { c with ch := ch }
  | .setMode m => { c with mode := m }
  | .setSample ss => { c with ss := ss }
  | .setPga g => { c with pga := g }
  | .trigger => { c with trig := .none }
  | .getChannel | .getMode | .getSample | .getPga => c
  | .codecEncode _ _ _ _ _ | .codecDecode _ => c

theorem initReport_cfg (a : ReadAnswer) (u : State) : (initReport a u).cfg = u.cfg.afterRead a := by
  cases a with
  | ok b0 b1 b2 => rfl
  | err => simp [initReport, initFailed_eq, ShadowConfig.afterRead]

theorem readSampleReport_cfg (a : ReadAnswer) (u : State) : (readSampleReport a u).cfg = u.cfg.afterRead a := by
  cases a <;> rfl

theorem reportWrite_cfg (a : WriteAnswer) (u : State) : (reportWrite a u).cfg = u.cfg := by
  cases a <;> rfl

/-- The closed form of CFG after an operation that is not refused. -/
theorem effect_cfg (i : Instr) (s : State) : (effect i s).cfg = cfgAfter i s.readAnswer s.cfg := by
  cases i with
  | init => exact initReport_cfg _ _
  | readSample => exact readSampleReport_cfg _ _
  | setChannel | setMode | setSample | setPga | trigger => exact reportWrite_cfg _ _
  | getChannel | getMode | getSample | getPga | codecEncode | codecDecode => rfl

/-- No operation leaves a trigger in the shadow (R28(a)). -/
theorem cfgAfter_trig (a : ReadAnswer) (h : c.trig = .none) : (cfgAfter i a c).trig = .none := by
  cases i with
  | init => exact afterRead_trig _ _
  | readSample => exact (afterRead_trig _ _).trans h
  | trigger => rfl
  | setChannel | setMode | setSample | setPga | getChannel | getMode | getSample | getPga | codecEncode | codecDecode => exact h

/-! ### The access summary (R25) -/

theorem fieldKept_refl (f : CfgField) (c : ShadowConfig) : FieldKept f c c := by
  cases f <;> rfl

/-- An operation that is not refused keeps the fields its row of R25 does not mark. -/
theorem cfgAfter_keeps {f : CfgField} (a : ReadAnswer) (c : ShadowConfig) (h : mayWrite i f = false) :
    FieldKept f c (cfgAfter i a c) := by
  cases i with
  | init => cases h
  | readSample =>
    obtain rfl : f = .trig := by simpa [mayWrite] using h
    exact afterRead_trig a c
  | setChannel => cases f with | ch => cases h | _ => rfl
  | setMode => cases f with | mode => cases h | _ => rfl
  | setSample => cases f with | ss => cases h | _ => rfl
  | setPga => cases f with | pga => cases h | _ => rfl
  | trigger => cases f with | trig => cases h | _ => rfl
  | getChannel | getMode | getSample | getPga | codecEncode | codecDecode => exact fieldKept_refl f c

theorem mayWrite_of_codec (f : CfgField) (h : i.isHostCommand = false) : mayWrite i f = false := by
  cases i with
  | codecEncode | codecDecode => rfl
  | _ => cases h

/-- Settles O30: a refused operation keeps CFG, and any other keeps what its row does not mark; a codec function, which is never
refused, has no mark at all. -/
theorem operationsWriteOnlyTheirOwnFields : Obligations.OperationsWriteOnlyTheirOwnFields := by
  intro s t i f h hf
  obtain ⟨-, -, -, rfl⟩ | ⟨hrun, rfl⟩ := exec_cases h
  · exact fieldKept_refl f s.cfg
  · have hmark : mayWrite i f = false := by
      obtain hm | ⟨hi, hs⟩ := hf
      · exact hm
      · exact mayWrite_of_codec f ((hrun.resolve_left hs).resolve_left hi)
    rw [effect_cfg]
    exact cfgAfter_keeps _ _ hmark

/-! ### The data status and the trigger intent (R29) -/

theorem mayWrite_ds (i : Instr) : mayWrite i .ds = isReading i := by
  cases i <;> rfl

/-- The two reading commands take the data status from the read. -/
theorem cfgAfter_ds_of_reading (a : ReadAnswer) (c : ShadowConfig) (h : isReading i = true) :
    (cfgAfter i a c).ds = (c.afterRead a).ds := by
  cases i with
  | init => cases a <;> rfl
  | readSample => rfl
  | _ => cases h

theorem dataStatusOf_eq (b : Byte) : dataStatusOf b = if b.getLsbD 7 then .notUpdated else .updated := by
  unfold dataStatusOf
  cases b.getLsbD 7 <;> rfl

/-- An operation that is not refused has its effect. -/
theorem exec_of_not_refused (h : s.sstate = .initialized ∨ i = .init ∨ i.isHostCommand = false) : exec i s = .next (effect i s) := by
  obtain hs | rfl | hc := h
  · exact exec_of_initialized hs
  · rfl
  · cases i with
    | codecEncode | codecDecode => rfl
    | _ => cases hc

theorem initReport_responses_congr (a : ReadAnswer) (h : u.responses = v.responses) :
    (initReport a u).responses = (initReport a v).responses := by
  cases a with
  | ok b0 b1 b2 => exact congrArg (· ++ [_]) h
  | err => simp [initReport, initFailed_eq, h]

theorem readSampleReport_responses_congr (a : ReadAnswer) (h : u.responses = v.responses) :
    (readSampleReport a u).responses = (readSampleReport a v).responses := by
  cases a <;> exact congrArg (· ++ [_]) h

theorem reportWrite_responses_congr (a : WriteAnswer) (h : u.responses = v.responses) :
    (reportWrite a u).responses = (reportWrite a v).responses := by
  simp [reportWrite_eq, h]

/-- No response depends on the trigger intent that stands in the shadow. -/
theorem effect_responses_of_trig (i : Instr) (s : State) (tr : TriggerIntent) :
    (effect i { s with cfg := { s.cfg with trig := tr } }).responses = (effect i s).responses := by
  cases i with
  | init => exact initReport_responses_congr _ rfl
  | readSample => exact readSampleReport_responses_congr _ rfl
  | setChannel | setMode | setSample | setPga | trigger => exact reportWrite_responses_congr _ rfl
  | getChannel | getMode | getSample | getPga | codecEncode | codecDecode => rfl

/-- The same for every operation, refused or not. -/
theorem exec_responses_of_trig (h : exec i s = .next t) (tr : TriggerIntent) :
    ∃ u, exec i { s with cfg := { s.cfg with trig := tr } } = .next u ∧ u.responses = t.responses := by
  obtain ⟨hs, hi, hc, rfl⟩ | ⟨hrun, rfl⟩ := exec_cases h
  · exact ⟨_, exec_of_refused hs hi hc, rfl⟩
  · exact ⟨_, exec_of_not_refused hrun, effect_responses_of_trig i s tr⟩

/-- Settles O31: where the operation has read, DS comes from the answer; elsewhere R25 has no mark on DS (O30). -/
theorem dataStatusComesOnlyFromReads : Obligations.DataStatusComesOnlyFromReads := by
  intro s t i h
  refine ⟨?_, exec_responses_of_trig h⟩
  by_cases hread : isReading i = true ∧ (i = .init ∨ s.sstate = .initialized)
  · obtain ⟨hs, hi, -, -⟩ | ⟨-, rfl⟩ := exec_cases h
    · exact absurd hread.2 (by simp [hi, hs])
    · rw [effect_cfg, cfgAfter_ds_of_reading _ _ hread.1]
      cases s.readAnswer with
      | ok b0 b1 b2 => exact (dataStatusOf_eq b2).trans (if_pos hread).symm
      | err => rfl
  · have hmark : mayWrite i .ds = false ∨ (i ≠ .init ∧ s.sstate ≠ .initialized) := by
      rw [mayWrite_ds]
      cases hr : isReading i with
      | false => exact .inl rfl
      | true => exact .inr (by simpa [hr] using hread)
    have hkept : t.cfg.ds = s.cfg.ds := operationsWriteOnlyTheirOwnFields s t i .ds h hmark
    cases s.readAnswer with
    | ok b0 b1 b2 => exact hkept.trans (if_neg hread).symm
    | err => exact hkept

/-! ### The session state (R22, R28(c)) -/

theorem reportWrite_sstate (a : WriteAnswer) (u : State) : (reportWrite a u).sstate = u.sstate := by
  cases a <;> rfl

theorem readSampleReport_sstate (a : ReadAnswer) (u : State) : (readSampleReport a u).sstate = u.sstate := by
  cases a <;> rfl

/-- INIT keeps `Initialized`, its failure path too (R99, decision D5). -/
theorem initReport_sstate_of_initialized (a : ReadAnswer) (h : u.sstate = .initialized) : (initReport a u).sstate = .initialized := by
  cases a with
  | ok b0 b1 b2 => rfl
  | err => exact (initFailed_sstate u).trans (if_pos h)

theorem effect_init_sstate_of_initialized (h : s.sstate = .initialized) : (effect .init s).sstate = .initialized :=
  initReport_sstate_of_initialized _ h

theorem effect_sstate_of_ne_init (s : State) (h : i ≠ .init) : (effect i s).sstate = s.sstate := by
  cases i with
  | init => exact absurd rfl h
  | readSample => exact readSampleReport_sstate _ _
  | setChannel | setMode | setSample | setPga | trigger => exact reportWrite_sstate _ _
  | getChannel | getMode | getSample | getPga | codecEncode | codecDecode => rfl

/-- Settles O32: only INIT's effect writes SSTATE, and it keeps `Initialized`. -/
theorem onlyInitWritesTheSessionState : Obligations.OnlyInitWritesTheSessionState := by
  intro s t i h hne
  obtain ⟨-, -, -, rfl⟩ | ⟨-, rfl⟩ := exec_cases h
  · exact absurd rfl hne
  · obtain rfl : i = .init := by_contra fun hi => hne (effect_sstate_of_ne_init s hi)
    exact ⟨rfl, fun hs => hne ((effect_init_sstate_of_initialized hs).trans hs.symm)⟩

theorem exec_keeps_initialized (h : exec i s = .next t) (hs : s.sstate = .initialized) : t.sstate = .initialized := by
  by_contra ht
  exact (onlyInitWritesTheSessionState s t i h (hs ▸ ht)).2 hs

theorem runWord_keeps_initialized (h : runWord w s = .next t) (hs : s.sstate = .initialized) : t.sstate = .initialized := by
  obtain ⟨i, -, hrun⟩ | ⟨-, rfl⟩ := runWord_cases h
  · exact exec_keeps_initialized hrun hs
  · exact hs

/-! ### What a step can do -/

/-- The ways a step leads from `s` to a next state. -/
inductive StepsTo (s : State) : State → Prop
  /-- Nothing is at the inputs. -/
  | idle (h : s.inputs = []) : StepsTo s s
  /-- A word meets BUSY = 1. -/
  | waiting (w : Byte) (rest : List PortInput) (h : s.inputs = .command w :: rest) (hb : s.busy = true) : StepsTo s s
  /-- A word is accepted and runs. -/
  | ran (w : Byte) (rest : List PortInput) (t : State) (h : s.inputs = .command w :: rest) (hb : s.busy = false)
      (hrun : runWord w { s with inputs := rest } = .next t) : StepsTo s t
  /-- A codec port gives its value. -/
  | emitted (p : PortInput) (rest : List PortInput) (o : CodecOutput) (h : s.inputs = p :: rest) :
      StepsTo s (codecEmit o { s with inputs := rest })
  /-- Reset is asserted between commands. -/
  | reset (rest : List PortInput) (h : s.inputs = .reset :: rest) : StepsTo s (resetRegisters { s with inputs := rest })
  /-- Reset ends a command that was in progress before the step. -/
  | resetBusy (w : Byte) (issued : Bool) (rest : List PortInput) (h : s.inputs = .resetDuring w issued :: rest) (hb : s.busy = true) :
      StepsTo s (resetRegisters { s with inputs := rest })
  /-- Reset abandons the command of an accepted word. -/
  | abandoned (w : Byte) (issued : Bool) (rest : List PortInput) (u : State) (h : s.inputs = .resetDuring w issued :: rest)
      (hb : s.busy = false) (hrun : runWord w { s with inputs := rest } = .next u) :
      StepsTo s (abandoned issued { s with inputs := rest } u)

/-- A word that meets BUSY = 1 waits (R6, R27). -/
theorem step_command_of_busy (h : s.inputs = .command w :: rest) (hb : s.busy = true) : step s = .next s := by
  simp [step_input h, takeInput, offerWord, hb]

/-- With BUSY = 1 reset ends the command in progress (R148). -/
theorem step_resetDuring_of_busy {issued : Bool} (h : s.inputs = .resetDuring w issued :: rest) (hb : s.busy = true) :
    step s = .next (resetRegisters { s with inputs := rest }) := by
  simp [step_input h, takeInput, offerWordThenReset, hb]

/-- A word that is accepted runs, and reset abandons its command (R148). -/
theorem offerWordThenReset_of_ready {issued : Bool} (hb : s.busy = false) (hrun : runWord w s = .next u) :
    offerWordThenReset w issued s = .next (abandoned issued s u) := by
  simp [offerWordThenReset, runWordThenReset, hb, hrun]

/-- With BUSY = 0 the word is accepted, and reset abandons its command (R148). -/
theorem step_resetDuring {issued : Bool} (h : s.inputs = .resetDuring w issued :: rest) (hb : s.busy = false)
    (hrun : runWord w { s with inputs := rest } = .next u) : step s = .next (abandoned issued { s with inputs := rest } u) :=
  (step_input h).trans (offerWordThenReset_of_ready hb hrun)

/-- Said once: every step that answers a next state is one of these. -/
theorem stepsTo_of_step (h : step s = .next t) : StepsTo s t := by
  cases hin : s.inputs with
  | nil =>
    cases (step_idle hin).symm.trans h
    exact .idle hin
  | cons p rest =>
    have htake := (step_input hin).symm.trans h
    cases p with
    | command w =>
      cases hb : s.busy with
      | true =>
        cases (step_command_of_busy hin hb).symm.trans h
        exact .waiting w rest hin hb
      | false => exact .ran w rest t hin hb ((step_command hin hb).symm.trans h)
    | reset =>
      cases htake
      exact .reset rest hin
    | resetDuring w issued =>
      cases hb : s.busy with
      | true =>
        cases (step_resetDuring_of_busy hin hb).symm.trans h
        exact .resetBusy w issued rest hin hb
      | false =>
        obtain ⟨u, hrun, -⟩ := runWord_completes w { s with inputs := rest }
        cases (step_resetDuring hin hb hrun).symm.trans h
        exact .abandoned w issued rest u hin hb hrun
    | encode | decode | sampleValue =>
      cases htake
      exact .emitted _ rest _ hin

/-- Settles O3: nothing at the inputs, or a word and BUSY = 1, leaves the state; a codec port's operands go to `exec`. -/
theorem stepTakesOtherInputs : Obligations.StepTakesOtherInputs :=
  ⟨fun _ h => step_idle h, fun _ _ _ h hb => step_command_of_busy h hb, fun _ _ _ _ _ _ _ h => step_input h,
    fun _ _ _ h => step_input h⟩

/-- Settles O33: only the two reset inputs write SSTATE outside an operation, and no operation leaves `Initialized` (O32). -/
theorem initializedLastsUntilReset : Obligations.InitializedLastsUntilReset := by
  intro s t hs hreset hduring h
  cases stepsTo_of_step h with
  | idle | waiting | emitted => exact hs
  | ran w rest t hin hb hrun => exact runWord_keeps_initialized hrun hs
  | reset rest hin => exact absurd hin (hreset rest)
  | resetBusy w issued rest hin | abandoned w issued rest u hin => exact absurd hin (hduring w issued rest)

/-! ### The invariant (R28(a), R27, R7, R78) -/

/-- Settles O37: each register and each record at its reset value (R31). -/
theorem resetState : Obligations.ResetState := ⟨rfl, rfl, rfl, rfl, rfl, rfl⟩

/-- Settles O40: after reset nothing has been issued or answered. -/
theorem resetSatisfiesTheInvariant : Obligations.ResetSatisfiesTheInvariant where
  trig := rfl
  busy := rfl
  trace := List.forall_mem_nil _
  responses := List.forall_mem_nil _

theorem legal_ok (x : RspData) : (Response.ok x).Legal := by
  change 0#3 ≠ 4#3 ∧ 0#3 ≠ 6#3 ∧ 0#3 ≠ 7#3
  decide

/-- Every error but the reserved `ProtocolError` may be answered (R129). -/
theorem legal_error {k : ErrorKind} (h : k ≠ .protocolError) : (Response.error k).Legal := by
  unfold Response.Legal
  cases k with
  | protocolError => exact absurd rfl h
  | transportReadError | transportWriteError | notInitialized | illegalCommand => decide

theorem legal_read : (BusRequest.read .busAddr 3 1500).Legal := .inr rfl

/-- The control byte of a shadow never has the reserved sample setting (R74(a)). -/
theorem legal_write_controlByte (c : ShadowConfig) : (BusRequest.write .busAddr [controlByte c] 500).Legal := by
  refine .inl ⟨controlByte c, rfl, ?_⟩
  rw [controlByte, encodeByte_sample]
  exact sampleIndex_ne_three c.ss

/-- The part of the invariant that speaks of the outputs; it holds within a command too. -/
structure OutputsLegal (s : State) : Prop where
  trace : ∀ q ∈ s.trace, q.Legal
  responses : ∀ r ∈ s.responses, r.Legal

theorem State.Inv.outputsLegal (h : s.Inv) : OutputsLegal s := ⟨h.trace, h.responses⟩

theorem OutputsLegal.accept (h : OutputsLegal s) : OutputsLegal (accept s) := ⟨h.trace, h.responses⟩

theorem OutputsLegal.writeCfg (h : OutputsLegal s) (f : ShadowConfig → ShadowConfig) : OutputsLegal (writeCfg f s) :=
  ⟨h.trace, h.responses⟩

theorem OutputsLegal.setSession (h : OutputsLegal s) (x : SessionState) : OutputsLegal (setSession x s) := ⟨h.trace, h.responses⟩

theorem OutputsLegal.respond (h : OutputsLegal s) (hr : r.Legal) : OutputsLegal (respond r s) :=
  ⟨h.trace, List.forall_mem_append.2 ⟨h.responses, List.forall_mem_singleton.2 hr⟩⟩

theorem OutputsLegal.readFrame (h : OutputsLegal s) : OutputsLegal (readFrame s).2 :=
  ⟨List.forall_mem_append.2 ⟨h.trace, List.forall_mem_singleton.2 legal_read⟩, h.responses⟩

theorem OutputsLegal.push (h : OutputsLegal s) : OutputsLegal (push s).2 :=
  ⟨List.forall_mem_append.2 ⟨h.trace, List.forall_mem_singleton.2 (legal_write_controlByte s.cfg)⟩, h.responses⟩

theorem OutputsLegal.initReport (h : OutputsLegal s) (a : ReadAnswer) : OutputsLegal (initReport a s) := by
  cases a with
  | ok b0 b1 b2 => exact ((h.writeCfg _).setSession _).respond (legal_ok 0)
  | err => exact (initFailed_eq s ▸ h.setSession _ : OutputsLegal (initFailed s)).respond (legal_error nofun)

theorem OutputsLegal.readSampleReport (h : OutputsLegal s) (a : ReadAnswer) : OutputsLegal (readSampleReport a s) := by
  cases a with
  | ok b0 b1 b2 => exact (h.writeCfg _).respond (legal_ok _)
  | err => exact h.respond (legal_error nofun)

theorem OutputsLegal.reportWrite (h : OutputsLegal s) (a : WriteAnswer) : OutputsLegal (reportWrite a s) := by
  cases a with
  | ok => exact h.respond (legal_ok 0)
  | err => exact h.respond (legal_error nofun)

/-- An operation that is not refused issues and answers only what is legal. -/
theorem OutputsLegal.effect (h : OutputsLegal s) (i : Instr) : OutputsLegal (effect i s) := by
  cases i with
  | init => exact (h.accept.writeCfg _).readFrame.initReport _
  | readSample => exact h.accept.readFrame.readSampleReport _
  | setChannel | setMode | setSample | setPga => exact (h.accept.writeCfg _).push.reportWrite _
  | trigger => exact ((h.accept.writeCfg _).push.writeCfg _).reportWrite _
  | getChannel | getMode | getSample | getPga => exact h.accept.respond (legal_ok _)
  | codecEncode | codecDecode => exact ⟨h.trace, h.responses⟩

theorem effect_busy (i : Instr) (hb : s.busy = false) : (effect i s).busy = false := by
  cases i with
  | codecEncode | codecDecode => exact hb
  | _ => exact (completes_effect rfl).busy

theorem State.Inv.effect (h : s.Inv) (i : Instr) : (effect i s).Inv where
  trig := by rw [effect_cfg]; exact cfgAfter_trig _ h.trig
  busy := effect_busy i h.busy
  trace := (h.outputsLegal.effect i).trace
  responses := (h.outputsLegal.effect i).responses

/-- A command that only answers. -/
theorem State.Inv.respond_accept (h : s.Inv) (hr : r.Legal) : (respond r (accept s)).Inv where
  trig := h.trig
  busy := rfl
  trace := h.trace
  responses := (h.outputsLegal.accept.respond hr).responses

theorem State.Inv.exec (h : s.Inv) (hrun : exec i s = .next t) : t.Inv := by
  obtain ⟨-, -, -, rfl⟩ | ⟨-, rfl⟩ := exec_cases hrun
  · exact h.respond_accept (legal_error nofun)
  · exact h.effect i

theorem State.Inv.runWord (h : s.Inv) (hrun : runWord w s = .next t) : t.Inv := by
  obtain ⟨i, -, hexec⟩ | ⟨-, rfl⟩ := runWord_cases hrun
  · exact h.exec hexec
  · exact h.respond_accept (legal_error nofun)

theorem State.Inv.withInputs (h : s.Inv) (rest : List PortInput) : ({ s with inputs := rest } : State).Inv :=
  ⟨h.trig, h.busy, h.trace, h.responses⟩

theorem OutputsLegal.resetRegisters_inv (h : OutputsLegal s) : (resetRegisters s).Inv := ⟨rfl, rfl, h.trace, h.responses⟩

/-- The registers are as after reset, and the trace is that of one of the two states (R148). -/
theorem State.Inv.abandoned (hs : s.Inv) (ht : t.Inv) (issued : Bool) : (abandoned issued s t).Inv := by
  cases issued with
  | true => exact OutputsLegal.resetRegisters_inv ⟨ht.trace, hs.responses⟩
  | false => exact hs.outputsLegal.resetRegisters_inv

/-- Settles O41, by the ways a step can go. -/
theorem stepKeepsTheInvariant : Obligations.StepKeepsTheInvariant := by
  intro s t h hstep
  cases stepsTo_of_step hstep with
  | idle | waiting => exact h
  | ran w rest t hin hb hrun => exact (h.withInputs rest).runWord hrun
  | emitted => exact ⟨h.trig, h.busy, h.trace, h.responses⟩
  | reset rest | resetBusy w issued rest => exact (h.withInputs rest).outputsLegal.resetRegisters_inv
  | abandoned w issued rest u hin hb hrun => exact (h.withInputs rest).abandoned ((h.withInputs rest).runWord hrun) issued

/-! ### The registers never seeded cannot be seen (R32) -/

/-- `c` may stand in CFG of `s` unseen: it has the same trigger, and once the session is initialized it is the same. -/
structure Unseen (s : State) (c : ShadowConfig) : Prop where
  trig : c.trig = s.cfg.trig
  seeded : s.sstate = .initialized → c = s.cfg

theorem sameButUnseeded_writeCfg (h : Unseen s c) : SameButUnseeded s (writeCfg (fun _ => c) s) :=
  ⟨rfl, h.trig.symm, fun hs => (h.seeded hs).symm, rfl, rfl, rfl, rfl, rfl, rfl, rfl, rfl⟩

theorem sameButUnseeded_refl (s : State) : SameButUnseeded s s := sameButUnseeded_writeCfg (c := s.cfg) ⟨rfl, fun _ => rfl⟩

/-- The relation of R32 is a write of CFG, unseen, and nothing else. -/
theorem exists_unseen (h : SameButUnseeded s t) : ∃ c, t = writeCfg (fun _ => c) s ∧ Unseen s c := by
  obtain ⟨hss, htrig, hcfg, hb, hin, hra, hwa, hd, htr, hre, hco⟩ := h
  refine ⟨t.cfg, ?_, htrig.symm, fun hs => (hcfg hs).symm⟩
  rw [writeCfg, hss, hb, hin, hra, hwa, hd, htr, hre, hco]

/-- A refresh overwrites all of CFG but TRIG (R98). -/
theorem refreshed_congr (f : StatusFields) (h : c.trig = d.trig) : c.refreshed f = d.refreshed f := by
  simp [ShadowConfig.refreshed, h]

/-- INIT's failure path does not look at CFG (R99). -/
theorem initFailed_writeCfg (f : ShadowConfig → ShadowConfig) (s : State) : initFailed (writeCfg f s) = writeCfg f (initFailed s) := by
  rw [initFailed_eq, initFailed_eq]
  rfl

/-- INIT's failure path makes no session `Initialized`, so what was unseen stays unseen (R99). -/
theorem unseen_initFailed (h : Unseen s c) : Unseen (initFailed s) c := by
  rw [initFailed_eq]
  refine ⟨h.trig, fun hx => h.seeded ?_⟩
  by_contra hs
  simp [hs] at hx

/-- After its read INIT seeds CFG whole, or fails and keeps it unseen (R99). -/
theorem sameButUnseeded_initReport (a : ReadAnswer) (h : Unseen s c) :
    SameButUnseeded (initReport a s) (initReport a (writeCfg (fun _ => c) s)) := by
  cases a with
  | ok b0 b1 b2 => exact sameButUnseeded_writeCfg (s := initReport (.ok b0 b1 b2) s) ⟨h.trig, fun _ => refreshed_congr _ h.trig⟩
  | err =>
    obtain ⟨htrig, hseeded⟩ := unseen_initFailed h
    simp only [initReport, initFailed_writeCfg]
    exact sameButUnseeded_writeCfg (s := raiseError .transportReadError (initFailed s)) ⟨htrig, hseeded⟩

/-- A command that is only answered. -/
theorem sameButUnseeded_respond_accept (r : Response) (h : Unseen s c) :
    SameButUnseeded (respond r (accept s)) (respond r (accept (writeCfg (fun _ => c) s))) :=
  sameButUnseeded_writeCfg (s := respond r (accept s)) ⟨h.trig, h.seeded⟩

theorem sameButUnseeded_codecEmit (o : CodecOutput) (h : Unseen s c) :
    SameButUnseeded (codecEmit o s) (codecEmit o (writeCfg (fun _ => c) s)) :=
  sameButUnseeded_writeCfg (s := codecEmit o s) ⟨h.trig, h.seeded⟩

/-- Before a successful INIT an operation is refused, or it is INIT or a codec function; afterwards nothing is unseen. -/
theorem sameButUnseeded_exec (i : Instr) (h : Unseen s c) :
    ∃ s' t', exec i s = .next s' ∧ exec i (writeCfg (fun _ => c) s) = .next t' ∧ SameButUnseeded s' t' := by
  by_cases hs : s.sstate = .initialized
  · obtain rfl := h.seeded hs
    exact ⟨_, _, exec_of_initialized hs, exec_of_initialized hs, sameButUnseeded_refl _⟩
  cases i with
  | init =>
    have hread : Unseen (readFrame (setTrig .none (accept s))).2 { c with trig := .none } := ⟨rfl, fun hx => absurd hx hs⟩
    exact ⟨_, _, rfl, rfl, sameButUnseeded_initReport s.readAnswer hread⟩
  | codecEncode | codecDecode => exact ⟨_, _, rfl, rfl, sameButUnseeded_codecEmit _ h⟩
  | _ => exact ⟨_, _, exec_of_refused hs nofun rfl, exec_of_refused hs nofun rfl, sameButUnseeded_respond_accept _ h⟩

theorem sameButUnseeded_runWord (w : Byte) (h : Unseen s c) :
    ∃ s' t', runWord w s = .next s' ∧ runWord w (writeCfg (fun _ => c) s) = .next t' ∧ SameButUnseeded s' t' := by
  cases hd : decode w with
  | ok i =>
    rw [runWord_of_decode_ok hd, runWord_of_decode_ok hd]
    exact sameButUnseeded_exec i h
  | error e => exact ⟨_, _, runWord_of_decode_error hd, runWord_of_decode_error hd, sameButUnseeded_respond_accept _ h⟩

/-- An abandoned command leaves its ports and the registers of reset, so nothing of CFG (R148). -/
theorem abandoned_writeCfg (f : ShadowConfig → ShadowConfig) (s : State) (issued : Bool) (h : SamePorts u v) :
    abandoned issued (writeCfg f s) v = abandoned issued s u := by
  obtain ⟨-, -, hra, hwa, hd, htr, -, -⟩ := h
  cases issued <;> simp [abandoned, resetRegisters, hra, hwa, hd, htr]

/-- A step, by what stands first at the inputs of both states. -/
theorem sameButUnseeded_step (h : Unseen s c) :
    ∃ s' t', step s = .next s' ∧ step (writeCfg (fun _ => c) s) = .next t' ∧ SameButUnseeded s' t' := by
  cases hin : s.inputs with
  | nil => exact ⟨_, _, step_idle hin, step_idle hin, sameButUnseeded_writeCfg h⟩
  | cons p rest =>
    have hin' : (writeCfg (fun _ => c) s).inputs = p :: rest := hin
    have hrest : Unseen { s with inputs := rest } c := ⟨h.trig, h.seeded⟩
    cases p with
    | command w =>
      cases hb : s.busy with
      | true => exact ⟨_, _, step_command_of_busy hin hb, step_command_of_busy hin' hb, sameButUnseeded_writeCfg h⟩
      | false =>
        obtain ⟨s', t', hs', ht', hsame⟩ := sameButUnseeded_runWord w hrest
        exact ⟨s', t', (step_command hin hb).trans hs', (step_command hin' hb).trans ht', hsame⟩
    | reset => exact ⟨_, _, step_input hin, step_input hin', sameButUnseeded_refl _⟩
    | resetDuring w issued =>
      cases hb : s.busy with
      | true => exact ⟨_, _, step_resetDuring_of_busy hin hb, step_resetDuring_of_busy hin' hb, sameButUnseeded_refl _⟩
      | false =>
        obtain ⟨s', t', hs', ht', -, -, -, hports⟩ := sameButUnseeded_runWord w hrest
        refine ⟨_, _, step_resetDuring hin hb hs', (step_resetDuring hin' hb ht').trans ?_, sameButUnseeded_refl _⟩
        exact congrArg _ (abandoned_writeCfg (fun _ => c) { s with inputs := rest } issued hports)
    | encode | decode | sampleValue => exact ⟨_, _, step_input hin, step_input hin', sameButUnseeded_codecEmit _ hrest⟩

/-- Settles O42: the two states differ by a write of CFG that is unseen, and a step keeps it so or seeds it. -/
theorem unseededShadowIsUnobservable : Obligations.UnseededShadowIsUnobservable := by
  intro s t h
  obtain ⟨c, rfl, hc⟩ := exists_unseen h
  exact sameButUnseeded_step hc

end Sys2Proof.Machine
end

section
/-! PROOFS. 20_memory.md: the bus requests of a command (R39, R40, R45) and the byte it writes (R62, R104). What an operation that is
not refused adds to the trace is said once for each class of R45 (`effect_trace_of_…`); both claims are read off these. -/

open Sys2Proof Sys2Proof.Machine Sys2Proof.Spec

namespace Sys2Proof.Machine

variable {i : Instr}

/-! ### What an operation adds to the trace -/

theorem initReport_trace (a : ReadAnswer) (u : State) : (initReport a u).trace = u.trace := by
  cases a with
  | ok b0 b1 b2 => rfl
  | err => simp [initReport, initFailed_eq]

theorem readSampleReport_trace (a : ReadAnswer) (u : State) : (readSampleReport a u).trace = u.trace := by
  cases a <;> rfl

theorem reportWrite_trace (a : WriteAnswer) (u : State) : (reportWrite a u).trace = u.trace := by
  cases a <;> rfl

/-- INIT and READ_SAMPLE read three bytes, once (R40). -/
theorem effect_trace_of_reading (s : State) (h : isReading i = true) :
    (effect i s).trace = s.trace ++ [.read .busAddr 3 1500] := by
  cases i with
  | init => exact initReport_trace _ _
  | readSample => exact readSampleReport_trace _ _
  | _ => cases h

/-- The trigger bit of the byte a writing command pushes: TRIGGER sets it, a setter takes it from the shadow (R104, R110). -/
def pushedTrig (i : Instr) (c : ShadowConfig) : TriggerIntent :=
  match i with
  | .trigger => .trigger
  | _ => c.trig

/-- A setter writes the control byte of the shadow that its own write of CFG has left (R104). -/
theorem pushAndReport_trace (u : State) : (pushAndReport u).trace = u.trace ++ [.write .busAddr [controlByte u.cfg] 500] :=
  reportWrite_trace _ _

/-- A setter or TRIGGER writes one byte, once: the control byte of the shadow it leaves, but for the trigger (R39, R104). -/
theorem effect_trace_of_writing (s : State) (h : isWriting i = true) :
    (effect i s).trace =
      s.trace ++ [.write .busAddr [controlByte { (effect i s).cfg with trig := pushedTrig i s.cfg }] 500] := by
  rw [effect_cfg]
  cases i with
  | setChannel | setMode | setSample | setPga => exact pushAndReport_trace _
  | trigger => exact reportWrite_trace _ _
  | _ => cases h

/-- The getters and the codec functions do not use the bus (R45). -/
theorem effect_trace_of_neither (s : State) (hw : isWriting i = false) (hr : isReading i = false) :
    (effect i s).trace = s.trace := by
  cases i with
  | getChannel | getMode | getSample | getPga | codecEncode | codecDecode => rfl
  | init | readSample => cases hr
  | setChannel | setMode | setSample | setPga | trigger => cases hw

/-- The codec functions are no commands, so they neither write nor read the bus (R8, R97). -/
theorem effect_trace_of_codec (s : State) (h : i.isHostCommand = false) : (effect i s).trace = s.trace := by
  cases i with
  | codecEncode | codecDecode => exact effect_trace_of_neither s rfl rfl
  | _ => cases h

/-- Settles O34: a refused command only answers, and what any other adds to the trace is said by its class. -/
theorem eachCommandMakesAtMostOneBusRequest : Obligations.EachCommandMakesAtMostOneBusRequest := by
  intro s t i h
  obtain ⟨hs, hi, -, rfl⟩ | ⟨hrun, rfl⟩ := exec_cases h
  · rw [if_pos ⟨hi, hs⟩]
    rfl
  · split
    case isTrue hno =>
      obtain ⟨hi, hs⟩ := hno
      exact effect_trace_of_codec s ((hrun.resolve_left hs).resolve_left hi)
    case isFalse =>
      split
      case isTrue hw => exact ⟨_, effect_trace_of_writing s hw⟩
      case isFalse hw =>
        split
        case isTrue hr => exact effect_trace_of_reading s hr
        case isFalse hr => exact effect_trace_of_neither s (eq_false_of_ne_true hw) (eq_false_of_ne_true hr)

/-! ### The byte written, read back -/

/-- Format S reads the four configuration fields of a control byte as they were written, and the trigger bit as the data status
(R64, R65). -/
theorem statusOf_encodeByte (t : TriggerIntent) (ch : Channel) (m : ConversionMode) (ss : SampleSetting) (g : PgaGain) :
    statusOf (encodeByte t ch m ss g) =
      { ds := if t = .trigger then .notUpdated else .updated, ch := ch, mode := m, ss := ss, pga := g } := by
  cases t <;> cases ch <;> cases m <;> cases ss <;> cases g <;> decide

/-- Settles O35: the byte is the control byte of the shadow left, but for the trigger, and a control byte reads back. -/
theorem lastWrittenByteDecodesToTheShadow : Obligations.LastWrittenByteDecodesToTheShadow := by
  intro s t i hs hw h
  cases (exec_of_initialized hs).symm.trans h
  refine ⟨_, effect_trace_of_writing s hw, ?_⟩
  rw [controlByte, statusOf_encodeByte]
  exact ⟨rfl, rfl, rfl, rfl⟩

end Sys2Proof.Machine
end

section
/-! PROOFS. 30_encoding.md: the decoder and the encoder are one table (R75, R76, R83), the legal words (R77), and bit 7 of a written
byte (R71). A word is its three fields and back, and each operand check passes exactly on the code of its operand; `decode_ok_iff`
joins these, and the claims about words are read off it. -/

open Sys2Proof Sys2Proof.Machine Sys2Proof.Spec

namespace Sys2Proof.Machine

variable {s t : State} {w : Byte} {i : Instr} {op : BitVec 4} {arg : BitVec 2}

/-! ### Format H (R75) -/

/-- The fields of a word put together from three fields. -/
theorem commandFields_append (op : BitVec 4) (z arg : BitVec 2) :
    commandFields (op ++ z ++ arg : BitVec (4 + 2 + 2)) = ⟨op, z, arg⟩ := by
  have hop : (op ++ z ++ arg : BitVec (4 + 2 + 2)).extractLsb' 4 4 = op := by
    rw [BitVec.extractLsb'_append_eq_of_le (by decide)]
    exact BitVec.extractLsb'_append_eq_left
  have hz : (op ++ z ++ arg : BitVec (4 + 2 + 2)).extractLsb' 2 2 = z := by
    rw [BitVec.extractLsb'_append_eq_of_le (by decide)]
    exact BitVec.extractLsb'_append_eq_right
  have harg : (op ++ z ++ arg : BitVec (4 + 2 + 2)).extractLsb' 0 2 = arg := BitVec.extractLsb'_append_eq_right
  simp only [commandFields, hop, hz, harg]

/-- Every word is its three fields put together. -/
theorem append_commandFields (w : Byte) :
    ((commandFields w).op ++ (commandFields w).z ++ (commandFields w).arg : BitVec (4 + 2 + 2)) = w := by
  have hhigh : w.extractLsb' 4 4 ++ w.extractLsb' 2 2 = w.extractLsb' 2 6 :=
    BitVec.extractLsb'_append_extractLsb'_eq_extractLsb' rfl
  have hall : w.extractLsb' 2 6 ++ w.extractLsb' 0 2 = w := BitVec.extractLsb'_append_extractLsb'
  calc _ = w.extractLsb' 2 6 ++ w.extractLsb' 0 2 := congrArg (· ++ w.extractLsb' 0 2) hhigh
    _ = w := hall

theorem commandFields_commandWord (op : BitVec 4) (arg : BitVec 2) : commandFields (commandWord op arg) = ⟨op, 0#2, arg⟩ :=
  commandFields_append op 0#2 arg

/-- A word whose `z` is 00 is the command word of its other two fields. -/
theorem commandWord_commandFields (h : (commandFields w).z = 0#2) :
    commandWord (commandFields w).op (commandFields w).arg = w := by
  have hw := append_commandFields w
  rwa [h] at hw

theorem decode_commandWord (op : BitVec 4) (arg : BitVec 2) : decode (commandWord op arg) = decodeOp op arg := by
  simp [decode, commandFields_commandWord]

/-! ### The operand checks (R83) -/

theorem channelOfIndex_index (ch : Channel) : Channel.ofIndex ch.index = ch := by
  cases ch <;> rfl

theorem gainOfIndex_index (g : PgaGain) : PgaGain.ofIndex g.index = g := by
  cases g <;> rfl

theorem index_channelOfIndex (arg : BitVec 2) : (Channel.ofIndex arg).index = arg := by
  revert arg; decide

theorem index_gainOfIndex (arg : BitVec 2) : (PgaGain.ofIndex arg).index = arg := by
  revert arg; decide

theorem noOperand_ok_iff (j : Instr) : noOperand arg j = .ok i ↔ i = j ∧ arg = 0#2 := by
  unfold noOperand
  split
  case isTrue h => simp [h, eq_comm]
  case isFalse h => simp [h]

theorem modeOperand_ok_iff (m : ConversionMode) : modeOperand arg = .ok m ↔ arg = m.bit.setWidth 2 := by
  cases m <;> revert arg <;> decide

theorem sampleOperand_ok_iff (ss : SampleSetting) : sampleOperand arg = .ok ss ↔ arg = ss.index := by
  cases ss <;> revert arg <;> decide

/-- A mapped result is the image of a result. -/
theorem map_ok_iff {α : Type} {f : α → Instr} {x : Except IllegalWord α} : x.map f = .ok i ↔ ∃ a, x = .ok a ∧ i = f a := by
  cases x with
  | error e => simp [Except.map]
  | ok a => simp [Except.map, eq_comm]

/-! ### The decoder and the encoder -/

/-- The word of a command decodes to it. -/
theorem decode_of_encode (h : encode i = some w) : decode w = .ok i := by
  cases i with
  | codecEncode | codecDecode => cases h
  | setChannel ch =>
    cases h
    simp [decode_commandWord, decodeOp, channelOfIndex_index]
  | setMode m =>
    cases h
    rw [decode_commandWord]
    exact map_ok_iff.2 ⟨m, (modeOperand_ok_iff m).2 rfl, rfl⟩
  | setSample ss =>
    cases h
    rw [decode_commandWord]
    exact map_ok_iff.2 ⟨ss, (sampleOperand_ok_iff ss).2 rfl, rfl⟩
  | setPga g =>
    cases h
    simp [decode_commandWord, decodeOp, gainOfIndex_index]
  | init | readSample | getChannel | getMode | getSample | getPga | trigger =>
    cases h
    rfl

/-- An `op` by its number, as `decodeOp` matches it. -/
theorem eq_ofNat_of_toNat {k : Nat} (h : op.toNat = k) : op = BitVec.ofNat 4 k := by
  simp [← h]

/-- The command a legal `op` and `arg` decode to has the word of these two fields. -/
theorem encode_of_decodeOp (h : decodeOp op arg = .ok i) : encode i = some (commandWord op arg) := by
  unfold decodeOp at h
  split at h
  case h_12 => cases h
  all_goals
    rename_i hop
    obtain rfl := eq_ofNat_of_toNat hop
  case h_3 =>
    cases h
    simp [encode, index_channelOfIndex]
  case h_4 =>
    obtain ⟨m, hm, rfl⟩ := map_ok_iff.1 h
    rw [(modeOperand_ok_iff m).1 hm]
    rfl
  case h_5 =>
    obtain ⟨ss, hss, rfl⟩ := map_ok_iff.1 h
    rw [(sampleOperand_ok_iff ss).1 hss]
    rfl
  case h_6 =>
    cases h
    simp [encode, index_gainOfIndex]
  all_goals
    obtain ⟨rfl, rfl⟩ := (noOperand_ok_iff _).1 h
    rfl

/-- Decoding is the converse of encoding. -/
theorem decode_ok_iff : decode w = .ok i ↔ encode i = some w := by
  refine ⟨fun h => ?_, decode_of_encode⟩
  unfold decode at h
  split at h
  case isTrue hz => exact commandWord_commandFields hz ▸ encode_of_decodeOp h
  case isFalse => cases h

/-- Every host command has a word (R76). -/
theorem exists_encode (h : i.isHostCommand = true) : ∃ w, encode i = some w := by
  cases i with
  | codecEncode | codecDecode => cases h
  | _ => exact ⟨_, rfl⟩

/-- Settles O6: decoding is the converse of encoding, which gives every host command a word. -/
theorem decodeAndEncodeAgree : Obligations.DecodeAndEncodeAgree := by
  refine ⟨fun i hc => ?_, fun w i h => ⟨decode_isHostCommand h, decode_ok_iff.1 h⟩⟩
  obtain ⟨w, hw⟩ := exists_encode hc
  exact ⟨w, hw, decode_ok_iff.2 hw⟩

/-! ### The checks of R77 -/

theorem exists_noOperand_ok_iff (j : Instr) : (∃ i, noOperand arg j = .ok i) ↔ arg = 0#2 := by
  simp [noOperand_ok_iff]

theorem exists_map_ok_iff {α : Type} (f : α → Instr) (x : Except IllegalWord α) :
    (∃ i, x.map f = .ok i) ↔ ∃ a, x = .ok a := by
  simp [map_ok_iff]

theorem exists_modeOperand_ok_iff : (∃ m, modeOperand arg = .ok m) ↔ arg.getLsbD 1 = false := by
  unfold modeOperand
  split
  case isTrue h => simp [h]
  case isFalse h => simpa using h

theorem exists_sampleOperand_ok_iff : (∃ ss, sampleOperand arg = .ok ss) ↔ arg ≠ 3#2 := by
  unfold sampleOperand
  split
  case isTrue h => simp [h]
  case isFalse h => simpa using h

/-- The checks of R77 on the fields of a word, as propositions. -/
theorem wellFormed_iff (f : CommandFields) :
    f.wellFormed = true ↔ f.op.toNat ≤ 10 ∧ f.z = 0#2 ∧ (2 ≤ f.op.toNat ∧ f.op.toNat ≤ 5 ∨ f.arg = 0#2) ∧
      (f.op = 3#4 → f.arg.getLsbD 1 = false) ∧ (f.op = 4#4 → f.arg ≠ 3#2) := by
  simp [CommandFields.wellFormed, CommandFields.opAssigned, CommandFields.zIsZero, CommandFields.unusedArgIsZero,
    CommandFields.takesOperand, CommandFields.modeArgLegal, CommandFields.sampleArgLegal, and_assoc, imp_iff_not_or]

/-- With `z` = 00, the decoder accepts exactly the fields that pass the checks of R77. -/
theorem exists_decodeOp_ok_iff (op : BitVec 4) (arg : BitVec 2) :
    (∃ i, decodeOp op arg = .ok i) ↔ (CommandFields.mk op 0#2 arg).wellFormed = true := by
  rw [wellFormed_iff]
  unfold decodeOp
  split
  case h_12 =>
    have hop : ¬ op.toNat ≤ 10 := by
      intro hle
      interval_cases op.toNat <;> contradiction
    simp [hop]
  all_goals
    rename_i hop
    obtain rfl := eq_ofNat_of_toNat hop
  case h_3 | h_6 => simp
  case h_4 => simp [exists_map_ok_iff, exists_modeOperand_ok_iff]
  case h_5 => simp [exists_map_ok_iff, exists_sampleOperand_ok_iff]
  all_goals simp [exists_noOperand_ok_iff]

/-- The decoder accepts exactly the words whose fields pass the checks of R77. -/
theorem exists_decode_ok_iff_wellFormed : (∃ i, decode w = .ok i) ↔ (commandFields w).wellFormed = true := by
  by_cases hz : (commandFields w).z = 0#2
  · rw [← commandWord_commandFields hz, decode_commandWord, commandFields_commandWord, exists_decodeOp_ok_iff]
  · simp [decode, hz, wellFormed_iff]

/-! ### The match/mask map of R76 -/

/-- A mask that keeps `op` and `z` acts on `arg` alone. -/
theorem append_and_mask (op : BitVec 4) (z arg m : BitVec 2) :
    (op ++ z ++ arg) &&& (BitVec.allOnes 4 ++ BitVec.allOnes 2 ++ m) = op ++ z ++ (arg &&& m) := by
  simp only [BitVec.and_append, BitVec.and_allOnes]

/-- The mask of a row keeps `op`, `z` and the bits `m` of `arg`: a word it selects is of its `op`, with these bits 0. -/
theorem eq_commandWord_of_selects {r : OpcodeRow} {m : BitVec 2} (hp : r.pattern = commandWord op 0#2)
    (hm : r.mask = (BitVec.allOnes 4 ++ BitVec.allOnes 2 ++ m : BitVec (4 + 2 + 2))) (h : r.selects w = true) :
    ∃ arg, arg &&& m = 0#2 ∧ w = commandWord op arg := by
  have hsel : w &&& r.mask = commandWord op 0#2 := by simpa [OpcodeRow.selects, hp] using h
  rw [← append_commandFields w, hm] at hsel
  have hfields := congrArg commandFields ((append_and_mask ..).symm.trans hsel)
  rw [commandFields_append, commandFields_commandWord, CommandFields.mk.injEq] at hfields
  obtain ⟨hop, hz, harg⟩ := hfields
  exact ⟨_, harg, hop ▸ (commandWord_commandFields hz).symm⟩

/-- The word of a command selects its own row and no other, whatever the operation (Laws/PerInstr.lean). -/
theorem wordSelectsOwnRow (i : Instr) : Laws.WordSelectsOwnRow.Statement i :=
  match i with
  | .init => Laws.WordSelectsOwnRow.init
  | .readSample => Laws.WordSelectsOwnRow.readSample
  | .setChannel ch => Laws.WordSelectsOwnRow.setChannel ch
  | .setMode m => Laws.WordSelectsOwnRow.setMode m
  | .setSample ss => Laws.WordSelectsOwnRow.setSample ss
  | .setPga g => Laws.WordSelectsOwnRow.setPga g
  | .getChannel => Laws.WordSelectsOwnRow.getChannel
  | .getMode => Laws.WordSelectsOwnRow.getMode
  | .getSample => Laws.WordSelectsOwnRow.getSample
  | .getPga => Laws.WordSelectsOwnRow.getPga
  | .trigger => Laws.WordSelectsOwnRow.trigger
  | .codecEncode t ch m ss g => Laws.WordSelectsOwnRow.codecEncode t ch m ss g
  | .codecDecode b => Laws.WordSelectsOwnRow.codecDecode b

/-- The word of a command selects a row of the map. -/
theorem exists_row_of_encode (h : encode i = some w) : ∃ r ∈ opcodeRows, r.selects w = true := by
  have hown := wordSelectsOwnRow i w h
  have hmem : i.mnemonic ∈ (opcodeRows.filter (·.selects w)).map (·.mnemonic) := hown ▸ List.mem_singleton_self _
  obtain ⟨r, hr, -⟩ := List.mem_map.1 hmem
  exact ⟨r, List.mem_filter.1 hr⟩

/-- Each row of the map is an `op` with a mask on `arg`, and lets through operands of its command only, 0x43 apart (R77). -/
theorem row_operands :
    ∀ r ∈ opcodeRows, ∃ (op : BitVec 4) (m : BitVec 2), r.pattern = commandWord op 0#2 ∧
      r.mask = (BitVec.allOnes 4 ++ BitVec.allOnes 2 ++ m : BitVec (4 + 2 + 2)) ∧
      ∀ arg, arg &&& m = 0#2 → commandWord op arg ≠ 0x43#8 → (CommandFields.mk op 0#2 arg).wellFormed = true := by
  simp only [opcodeRows, List.cons_append, List.nil_append, List.forall_mem_cons]
  exact ⟨⟨0x0, 3, rfl, rfl, by decide⟩, ⟨0x1, 3, rfl, rfl, by decide⟩, ⟨0x2, 0, rfl, rfl, by decide⟩, ⟨0x3, 2, rfl, rfl, by decide⟩,
    ⟨0x4, 0, rfl, rfl, by decide⟩, ⟨0x5, 0, rfl, rfl, by decide⟩, ⟨0x6, 3, rfl, rfl, by decide⟩, ⟨0x7, 3, rfl, rfl, by decide⟩,
    ⟨0x8, 3, rfl, rfl, by decide⟩, ⟨0x9, 3, rfl, rfl, by decide⟩, ⟨0xA, 3, rfl, rfl, by decide⟩, List.forall_mem_nil _⟩

/-- A word that selects a row and is not 0x43 decodes. -/
theorem exists_decode_of_row {r : OpcodeRow} (hr : r ∈ opcodeRows) (h : r.selects w = true) (hw : w ≠ 0x43#8) :
    ∃ i, decode w = .ok i := by
  obtain ⟨op, m, hp, hm, hargs⟩ := row_operands r hr
  obtain ⟨arg, harg, rfl⟩ := eq_commandWord_of_selects hp hm h
  rw [exists_decode_ok_iff_wellFormed, commandFields_commandWord]
  exact hargs arg harg hw

/-- Settles O7: one side by the checks of R77 on the fields, the other by the rows of R76. -/
theorem decoderAcceptsExactlyTheLegalWords : Obligations.DecoderAcceptsExactlyTheLegalWords := by
  refine fun w => ⟨exists_decode_ok_iff_wellFormed, ?_, ?_⟩
  · rintro ⟨i, h⟩
    refine ⟨exists_row_of_encode (decode_ok_iff.1 h), ?_⟩
    rintro rfl
    cases h
  · rintro ⟨⟨r, hr, h⟩, hw⟩
    exact exists_decode_of_row hr h hw

/-! ### Bit 7 of a written byte (R71) -/

/-- The byte a command has written is the control byte of the shadow it leaves, but for the trigger (R104). -/
theorem written_byte {b : Byte} (h : exec i s = .next t) (htr : t.trace = s.trace ++ [.write .busAddr [b] 500]) :
    b = controlByte { t.cfg with trig := pushedTrig i s.cfg } := by
  obtain ⟨-, -, -, rfl⟩ | ⟨-, rfl⟩ := exec_cases h
  · simp at htr
  · cases hw : isWriting i with
    | true => simpa [effect_trace_of_writing s hw, eq_comm] using htr
    | false =>
      cases hr : isReading i with
      | true => simp [effect_trace_of_reading s hr] at htr
      | false => simp [effect_trace_of_neither s hw hr] at htr

/-- With no trigger in the shadow, only TRIGGER pushes one (R110). -/
theorem pushedTrig_eq_trigger_iff {c : ShadowConfig} (hc : c.trig = .none) : pushedTrig i c = .trigger ↔ i = .trigger := by
  cases i with
  | trigger => simp [pushedTrig]
  | _ => simp [pushedTrig, hc]

theorem encodeByte_bit_seven_iff (t : TriggerIntent) (ch : Channel) (m : ConversionMode) (ss : SampleSetting) (g : PgaGain) :
    (encodeByte t ch m ss g).getLsbD 7 = true ↔ t = .trigger := by
  rw [encodeByte_trigger, beq_iff_eq]

/-- Settles O24: a written byte is a control byte, whose bit 7 is the trigger pushed. -/
theorem onlyTriggerWritesBitSeven : Obligations.OnlyTriggerWritesBitSeven := by
  refine ⟨encodeByte_bit_seven_iff, fun s t i b hs h htr => ?_⟩
  obtain rfl := written_byte h htr
  exact (encodeByte_bit_seven_iff ..).trans (pushedTrig_eq_trigger_iff hs)

/-! ### A word at the inputs, and R76's words -/

/-- Settles O1: with BUSY = 0 the word in front is accepted, and a word that decodes runs its command. -/
theorem stepRunsTheDecodedCommand : Obligations.StepRunsTheDecodedCommand :=
  fun _ _ _ _ hin hb hd => (step_command hin hb).trans (runWord_of_decode_ok hd)

/-- Settles O5: each word is the one the encoder gives its command. -/
theorem wordsOfTheOpcodeMapDecode : Obligations.WordsOfTheOpcodeMapDecode := by
  unfold Obligations.WordsOfTheOpcodeMapDecode
  simp only [decode_ok_iff]
  exact ⟨rfl, rfl, rfl, rfl, rfl, rfl, rfl, rfl, rfl, rfl, rfl⟩

end Sys2Proof.Machine
end

section
/-! PROOFS. 40_codec.md: ENCODE and DECODE as numbers and as bits (R85 to R89, R93, R94), the two readings of a sample (R91, R92), and
the echo written back by a setter (R94). A byte is its five fields put together (`ofFields_extract`), and ENCODE after DECODE keeps
each of them but the trigger and a reserved sample setting (`encodeByte_decodeByte`); the claims about bytes are read off these. -/

open Sys2Proof Sys2Proof.Machine Sys2Proof.Spec

namespace Sys2Proof.Machine

variable {s : State} {i : Instr} {c : ShadowConfig} {b b0 b1 : Byte}

/-! ### The number of a control byte (R64, R85) -/

/-- Bit vectors put together, as a number in base `2 ^ n`. -/
theorem toNat_append_eq_add {k n : Nat} (x : BitVec k) (y : BitVec n) : (x ++ y).toNat = x.toNat * 2 ^ n + y.toNat := by
  rw [BitVec.toNat_append, ← Nat.shiftLeft_add_eq_or_of_lt y.isLt, Nat.shiftLeft_eq]

theorem toNat_channelIndex (ch : Channel) : ch.index.toNat = channelNo ch := by
  cases ch <;> rfl

theorem toNat_modeBit (m : ConversionMode) : m.bit.toNat = modeNo m := by
  cases m <;> rfl

theorem toNat_sampleIndex (ss : SampleSetting) : ss.index.toNat = sampleNo ss := by
  cases ss <;> rfl

theorem toNat_gainIndex (g : PgaGain) : g.index.toNat = gainNo g := by
  cases g <;> rfl

theorem toNat_triggerBit (t : TriggerIntent) : t.bit.toNat = triggerNo t := by
  cases t <;> rfl

theorem encodeByte_toNat (t : TriggerIntent) (ch : Channel) (m : ConversionMode) (ss : SampleSetting) (g : PgaGain) :
    (encodeByte t ch m ss g).toNat = controlNo t ch m ss g := by
  simp only [encodeByte, toNat_append_eq_add, toNat_triggerBit, toNat_channelIndex, toNat_modeBit, toNat_sampleIndex,
    toNat_gainIndex, controlNo]
  omega

/-- Settles O8: the port emits the control byte, whose number is the sum of its fields. -/
theorem encodePacksFiveFields : Obligations.EncodePacksFiveFields :=
  fun t ch m ss g _ => ⟨encodeByte t ch m ss g, encodeByte_toNat t ch m ss g, rfl⟩

/-! ### The fields of a status byte (R65, R88) -/

/-- A field of a byte as a quotient and remainder. -/
theorem toNat_extract (b : Byte) (k n : Nat) : (b.extractLsb' k n).toNat = b.toNat / 2 ^ k % 2 ^ n := by
  rw [BitVec.extractLsb'_toNat, Nat.shiftRight_eq_div_pow]

/-- Bit 7 is the top half of the 256 bytes. -/
theorem getLsbD_seven_iff (b : Byte) : b.getLsbD 7 = true ↔ ¬ b.toNat < 128 := by
  rw [← BitVec.msb_eq_getLsbD_last, BitVec.msb_eq_decide, decide_eq_true_iff, Nat.not_lt]

theorem getLsbD_four_iff (b : Byte) : b.getLsbD 4 = true ↔ b.toNat / 16 % 2 = 1 := by
  rw [← BitVec.testBit_toNat, Nat.testBit_eq_decide_div_mod_eq, decide_eq_true_iff]

theorem modeOfBit_eq (x : Bool) : ConversionMode.ofBit x = if x then .continuous else .oneShot := by
  cases x <;> rfl

/-- DECODE reads the fields of R88: each is a quotient and remainder of the byte. -/
theorem decodeByte_eq_statusOf (b : Byte) : decodeByte b = statusOf b := by
  have hds : dataStatusOf b = (statusOf b).ds := by
    simp only [dataStatusOf_eq, getLsbD_seven_iff, statusOf, ite_not]
  have hch : Channel.ofIndex (b.extractLsb' 5 2) = (statusOf b).ch := by
    rw [Channel.ofIndex, toNat_extract]
    rfl
  have hmode : ConversionMode.ofBit (b.getLsbD 4) = (statusOf b).mode := by
    simp only [modeOfBit_eq, getLsbD_four_iff, statusOf]
  have hss : SampleSetting.ofWire (b.extractLsb' 2 2) = (statusOf b).ss := by
    rw [SampleSetting.ofWire, toNat_extract]
    rfl
  have hpga : PgaGain.ofIndex (b.extractLsb' 0 2) = (statusOf b).pga := by
    rw [PgaGain.ofIndex, toNat_extract, Nat.pow_zero, Nat.div_one]
    rfl
  simp only [decodeByte, hds, hch, hmode, hss, hpga]

/-- Settles O9: the port emits the fields DECODE reads. -/
theorem decodeUnpacksEveryByte : Obligations.DecodeUnpacksEveryByte :=
  fun b s => congrArg (fun f => Host.Outcome.next (codecEmit (.statusFields f) s)) (decodeByte_eq_statusOf b)

/-! ### ENCODE after DECODE (R87, R94) -/

/-- The byte of five fields in the order of formats C and S, highest first (R64, R65). -/
def ofFields (x : BitVec 1) (c : BitVec 2) (m : BitVec 1) (s g : BitVec 2) : Byte :=
  (x ++ c ++ m ++ s ++ g : BitVec (1 + 2 + 1 + 2 + 2))

theorem encodeByte_eq_ofFields (t : TriggerIntent) (ch : Channel) (m : ConversionMode) (ss : SampleSetting) (g : PgaGain) :
    encodeByte t ch m ss g = ofFields t.bit ch.index m.bit ss.index g.index := rfl

/-- A mask acts on each field by itself. -/
theorem ofFields_and (x x' m m' : BitVec 1) (c c' s s' g g' : BitVec 2) :
    ofFields x c m s g &&& ofFields x' c' m' s' g' = ofFields (x &&& x') (c &&& c') (m &&& m') (s &&& s') (g &&& g') := by
  change (x ++ c ++ m ++ s ++ g) &&& (x' ++ c' ++ m' ++ s' ++ g') = _
  simp only [BitVec.and_append]
  rfl

/-- Every byte is its five fields put together. -/
theorem ofFields_extract (b : Byte) :
    ofFields (b.extractLsb' 7 1) (b.extractLsb' 5 2) (b.extractLsb' 4 1) (b.extractLsb' 2 2) (b.extractLsb' 0 2) = b := by
  have h5 : b.extractLsb' 7 1 ++ b.extractLsb' 5 2 = b.extractLsb' 5 3 :=
    BitVec.extractLsb'_append_extractLsb'_eq_extractLsb' rfl
  have h4 : b.extractLsb' 5 3 ++ b.extractLsb' 4 1 = b.extractLsb' 4 4 :=
    BitVec.extractLsb'_append_extractLsb'_eq_extractLsb' rfl
  have h2 : b.extractLsb' 4 4 ++ b.extractLsb' 2 2 = b.extractLsb' 2 6 :=
    BitVec.extractLsb'_append_extractLsb'_eq_extractLsb' rfl
  have h0 : b.extractLsb' 2 6 ++ b.extractLsb' 0 2 = b := BitVec.extractLsb'_append_extractLsb'
  rw [ofFields, h5, h4, h2]
  exact h0

/-- The mode is sent back as it came (R68). -/
theorem bit_modeOfBit (b : Byte) : (ConversionMode.ofBit (b.getLsbD 4)).bit = b.extractLsb' 4 1 := by
  refine BitVec.eq_of_getLsbD_eq fun k hk => ?_
  obtain rfl : k = 0 := by omega
  rw [BitVec.getLsbD_extractLsb']
  cases b.getLsbD 4 <;> rfl

/-- A received sample setting is sent back as it came, but for the reserved 3 (R69). -/
theorem index_sampleOfWire (x : BitVec 2) : (SampleSetting.ofWire x).index = if x = 3#2 then 2#2 else x := by
  revert x; decide

theorem triggerBit_surjective (x : BitVec 1) : ∃ t : TriggerIntent, t.bit = x := by
  obtain rfl | rfl := BitVec.eq_zero_or_eq_one x
  · exact ⟨.none, rfl⟩
  · exact ⟨.trigger, rfl⟩

/-- Bits 3 to 2 of a byte, as a field and as a number. -/
theorem sampleField_eq_three_iff (b : Byte) : b.extractLsb' 2 2 = 3#2 ↔ b.toNat / 4 % 4 = 3 := by
  rw [← BitVec.toNat_inj, toNat_extract]
  rfl

/-- ENCODE of the decoded fields has the fields of the byte, but for the trigger and a reserved sample setting. -/
theorem encodeByte_decodeByte (t : TriggerIntent) (b : Byte) :
    encodeByte t (decodeByte b).ch (decodeByte b).mode (decodeByte b).ss (decodeByte b).pga =
      ofFields t.bit (b.extractLsb' 5 2) (b.extractLsb' 4 1)
        (if b.extractLsb' 2 2 = 3#2 then 2#2 else b.extractLsb' 2 2) (b.extractLsb' 0 2) := by
  simp only [encodeByte_eq_ofFields, decodeByte, index_channelOfIndex, bit_modeOfBit, index_sampleOfWire, index_gainOfIndex]

/-- With bits 3 to 2 other than 11, the right trigger gives the byte back. -/
theorem exists_encodeByte_decodeByte (h : b.extractLsb' 2 2 ≠ 3#2) :
    ∃ t, encodeByte t (decodeByte b).ch (decodeByte b).mode (decodeByte b).ss (decodeByte b).pga = b := by
  obtain ⟨t, ht⟩ := triggerBit_surjective (b.extractLsb' 7 1)
  exact ⟨t, by rw [encodeByte_decodeByte, ht, if_neg h, ofFields_extract]⟩

/-- A mask that clears bit 7 and keeps the bits `x` of the sample setting. -/
theorem and_fieldMask (b : Byte) (x : BitVec 2) :
    b &&& ofFields 0#1 (BitVec.allOnes 2) (BitVec.allOnes 1) x (BitVec.allOnes 2) =
      ofFields 0#1 (b.extractLsb' 5 2) (b.extractLsb' 4 1) (b.extractLsb' 2 2 &&& x) (b.extractLsb' 0 2) := by
  conv_lhs => rw [← ofFields_extract b]
  simp only [ofFields_and, BitVec.and_allOnes, BitVec.and_zero]

/-- R94: ENCODE of the decoded fields without a trigger. -/
theorem encodeByte_none_decodeByte (b : Byte) :
    encodeByte .none (decodeByte b).ch (decodeByte b).mode (decodeByte b).ss (decodeByte b).pga =
      if b.toNat / 4 % 4 = 3 then b &&& 0x7B#8 else b &&& 0x7F#8 := by
  rw [encodeByte_decodeByte]
  by_cases h : b.extractLsb' 2 2 = 3#2
  · have hmask := and_fieldMask b 2#2
    rw [h] at hmask
    rw [if_pos h, if_pos ((sampleField_eq_three_iff b).1 h)]
    exact hmask.symm
  · have hmask := and_fieldMask b (BitVec.allOnes 2)
    rw [BitVec.and_allOnes] at hmask
    rw [if_neg h, if_neg (mt (sampleField_eq_three_iff b).2 h)]
    exact hmask.symm

/-- R93: DECODE of a control byte. -/
theorem decodeByte_encodeByte (t : TriggerIntent) (ch : Channel) (m : ConversionMode) (ss : SampleSetting) (g : PgaGain) :
    decodeByte (encodeByte t ch m ss g) =
      { ds := if t = .trigger then .notUpdated else .updated, ch := ch, mode := m, ss := ss, pga := g } :=
  (decodeByte_eq_statusOf _).trans (statusOf_encodeByte t ch m ss g)

/-- Settles O11: R93 and R94. -/
theorem codecRoundTrips : Obligations.CodecRoundTrips := ⟨decodeByte_encodeByte, encodeByte_none_decodeByte⟩

theorem eq_of_eq_trigger_iff {t t' : TriggerIntent} (h : t = .trigger ↔ t' = .trigger) : t = t' := by
  cases t with
  | trigger => exact (h.1 rfl).symm
  | none =>
    cases t' with
    | none => rfl
    | trigger => cases h.2 rfl

/-- Settles O10: DECODE recovers the four configuration fields and bit 7 the trigger; a control byte has no reserved sample setting,
and a byte without one is the control byte of its own fields. -/
theorem encodeIsInjectiveOntoUnreservedBytes : Obligations.EncodeIsInjectiveOntoUnreservedBytes := by
  refine ⟨fun t t' ch ch' m m' ss ss' g g' h => ?_, fun b => ?_⟩
  · have htrig : t = .trigger ↔ t' = .trigger := by
      rw [← encodeByte_bit_seven_iff t ch m ss g, h, encodeByte_bit_seven_iff]
    have hfields := congrArg decodeByte h
    rw [decodeByte_encodeByte, decodeByte_encodeByte, StatusFields.mk.injEq] at hfields
    obtain ⟨-, hch, hm, hss, hg⟩ := hfields
    exact ⟨eq_of_eq_trigger_iff htrig, hch, hm, hss, hg⟩
  · rw [Ne, ← sampleField_eq_three_iff]
    constructor
    · rintro ⟨t, ch, m, ss, g, rfl⟩
      rw [encodeByte_sample]
      exact sampleIndex_ne_three ss
    · intro h
      obtain ⟨t, ht⟩ := exists_encodeByte_decodeByte h
      exact ⟨t, _, _, _, _, ht⟩

/-! ### The two readings of a sample (R91, R92) -/

theorem sampleValue_full16 (b0 b1 : Byte) (ss : SampleSetting) :
    sampleValue .full16 b0 b1 ss = sext 16 (256 * b0.toNat + b1.toNat) := by
  rw [← sampleWord_toNat]
  rfl

theorem sampleValue_toResolution (b0 b1 : Byte) (ss : SampleSetting) :
    sampleValue .toResolution b0 b1 ss = sext ss.resolution ((256 * b0.toNat + b1.toNat) % 2 ^ ss.resolution) := by
  rw [← sampleWord_toNat]
  rfl

/-- At 16 bits the two readings are one (R92(d)). -/
theorem sampleValue_sixteen (b0 b1 : Byte) :
    sampleValue .toResolution b0 b1 .hz15bits16 = sampleValue .full16 b0 b1 .hz15bits16 :=
  congrArg (sext 16) (Nat.mod_eq_of_lt (sampleWord b0 b1).isLt)

/-- SAMPLE_VALUE's port emits the reading `NARROW` selects (R91, R97). -/
theorem step_sampleValue {ss : SampleSetting} {rest : List PortInput} (h : s.inputs = .sampleValue b0 b1 ss :: rest) :
    step s = .next { s with inputs := rest, codecOut := s.codecOut ++ [.sample (sampleValue Config.narrow b0 b1 ss)] } := by
  rw [step_input h, ← sampleValueHere_eq]
  rfl

/-- Settles O12: each reading is the sign extension of R11 at its width. -/
theorem sampleValueIsOneOfTwoReadings : Obligations.SampleValueIsOneOfTwoReadings := by
  refine fun b0 b1 ss => ⟨sampleValue_full16 b0 b1 ss, ?_, fun s rest => step_sampleValue⟩
  cases ss with
  | hz240bits12 => exact sampleValue_toResolution b0 b1 .hz240bits12
  | hz60bits14 => exact sampleValue_toResolution b0 b1 .hz60bits14
  | hz15bits16 => exact (sampleValue_sixteen b0 b1).trans (sampleValue_full16 b0 b1 .hz15bits16)

/-- R92(b): the range of the sample setting. -/
theorem sampleValue_toResolution_bounds (b0 b1 : Byte) (ss : SampleSetting) :
    -(2 : Int) ^ (ss.resolution - 1) ≤ sampleValue .toResolution b0 b1 ss ∧
      sampleValue .toResolution b0 b1 ss < 2 ^ (ss.resolution - 1) :=
  sext_bounds (by cases ss <;> decide) (Nat.mod_lt _ (Nat.two_pow_pos _))

/-- R92(a): 16 bits hold every value. -/
theorem sampleValue_full16_bounds (b0 b1 : Byte) (ss : SampleSetting) :
    -(2 : Int) ^ 15 ≤ sampleValue .full16 b0 b1 ss ∧ sampleValue .full16 b0 b1 ss < 2 ^ 15 :=
  sext_bounds (by decide) (sampleWord b0 b1).isLt

/-- Settles O13: a sign extension lies in the range of its width, and no resolution is wider than 16 bits. -/
theorem sampleValueFitsItsRange : Obligations.SampleValueFitsItsRange := by
  intro narrow b0 b1 ss
  cases narrow with
  | full16 =>
    have h := sampleValue_full16_bounds b0 b1 ss
    exact ⟨by omega, by omega, nofun, nofun⟩
  | toResolution =>
    have h := sampleValue_toResolution_bounds b0 b1 ss
    cases ss with
    | hz240bits12 =>
      simp only [SampleSetting.resolution] at h
      exact ⟨by omega, by omega, fun _ _ => by omega, nofun⟩
    | hz60bits14 =>
      simp only [SampleSetting.resolution] at h
      exact ⟨by omega, by omega, nofun, fun _ _ => by omega⟩
    | hz15bits16 =>
      simp only [SampleSetting.resolution] at h
      exact ⟨by omega, by omega, nofun, nofun⟩

/-- Settles O14: on the closed forms of O12, below 16 bits the word is compared with the boundaries of its sign extension. -/
theorem narrowIsUnobservableExactlyOnSignExtendedWords : Obligations.NarrowIsUnobservableExactlyOnSignExtendedWords := by
  intro b0 b1 ss
  have hv : 256 * b0.toNat + b1.toNat < 65536 := by omega
  obtain ⟨hfull, hres, -⟩ := sampleValueIsOneOfTwoReadings b0 b1 ss
  cases ss with
  | hz240bits12 | hz60bits14 =>
    rw [hfull, hres]
    dsimp only
    split <;> split <;> omega
  | hz15bits16 => exact iff_of_true (sampleValue_sixteen b0 b1).symm trivial

/-! ### A setter that sends the echo back (R94) -/

/-- The four setters, each set to what its field of `c` holds. -/
def settersOf (c : ShadowConfig) : List Instr := [.setChannel c.ch, .setMode c.mode, .setSample c.ss, .setPga c.pga]

/-- A setter with the value its field holds writes the control byte of the shadow as it stands (R104). -/
theorem effect_trace_of_settersOf (h : i ∈ settersOf s.cfg) :
    (effect i s).trace = s.trace ++ [.write .busAddr [controlByte s.cfg] 500] := by
  simp only [settersOf, List.mem_cons, List.not_mem_nil, or_false] at h
  obtain rfl | rfl | rfl | rfl := h <;> exact pushAndReport_trace _

/-- The control byte after a refresh, with no trigger in the shadow (R94). -/
theorem controlByte_refreshed (h : c.trig = .none) (b : Byte) :
    controlByte (c.refreshed (decodeByte b)) = if b.toNat / 4 % 4 = 3 then b &&& 0x7B#8 else b &&& 0x7F#8 := by
  rw [← encodeByte_none_decodeByte, ← h]
  rfl

/-- Settles O36: READ_SAMPLE refreshes the shadow from the status byte and keeps the session, and the setter then sends the control
byte of that shadow. -/
theorem readThenSetterWritesTheEchoBack : Obligations.ReadThenSetterWritesTheEchoBack := by
  intro s b0 b1 b2 hs htrig hread
  have hcfg : (effect .readSample s).cfg = s.cfg.refreshed (decodeByte b2) := by
    rw [effect_cfg, hread]
    rfl
  have hinit : (effect .readSample s).sstate = .initialized := (effect_sstate_of_ne_init s (by decide)).trans hs
  refine ⟨_, exec_of_initialized hs, fun i hi => ⟨_, exec_of_initialized hinit, ?_⟩⟩
  rw [effect_trace_of_settersOf hi, hcfg, controlByte_refreshed htrig]

end Sys2Proof.Machine
end

section
/-! PROOFS. 41_session_read_ops.md: INIT and READ_SAMPLE (R98 to R103). The whole next state of a command that reads is said once
(`frameAnswered`), with one equation for each command and each answer of the transport; the claims are read off these. The data of a
sample is said once as a number (`sampleData_toNat`). -/

open Sys2Proof Sys2Proof.Machine Sys2Proof.Spec

namespace Sys2Proof.Machine

variable {s : State} {b0 b1 b2 : Byte} {c : ShadowConfig} {x : SessionState} {r : Response}

/-! ### The state after the one bus read -/

/-- Where a command that reads leads to: one frame was read, CFG is `c`, SSTATE is `x`, and the response is `r`. -/
def frameAnswered (c : ShadowConfig) (x : SessionState) (r : Response) (s : State) : State :=
  respond r (setSession x (writeCfg (fun _ => c) (readFrame (accept s)).2))

theorem oneRead_frameAnswered : OneRead s (frameAnswered c x r s) := ⟨rfl, rfl, rfl⟩

theorem answered_frameAnswered : Answered r s (frameAnswered c x r s) := ⟨rfl, rfl⟩

theorem portsKept_frameAnswered : PortsKept s (frameAnswered c x r s) := ⟨rfl, rfl⟩

/-- REFRESH puts the fields of R88 into CFG and keeps TRIG (R98). -/
theorem refreshed_decodeByte (b : Byte) (c : ShadowConfig) : c.refreshed (decodeByte b) = seeded b c.trig := by
  rw [decodeByte_eq_statusOf]
  rfl

/-- The data of READ_SAMPLE's response to a frame (R100). -/
def frameData (b0 b1 b2 : Byte) : RspData := sampleData (decodeByte b2).ds (decodeFrame b0 b1 b2).2

/-! ### One equation for each command and answer (R99, R100) -/

theorem exec_init_of_ok (h : s.readAnswer = .ok b0 b1 b2) :
    exec .init s = .next (frameAnswered (seeded b2 .none) .initialized (.ok 0) s) := by
  calc exec .init s
      = .next (initReport s.readAnswer (readFrame (setTrig .none (accept s))).2) := rfl
    _ = .next (frameAnswered ({ s.cfg with trig := .none }.refreshed (decodeByte b2)) .initialized (.ok 0) s) := by rw [h]; rfl
    _ = .next (frameAnswered (seeded b2 .none) .initialized (.ok 0) s) := by rw [refreshed_decodeByte]

theorem exec_init_of_err (h : s.readAnswer = .err) :
    exec .init s = .next (frameAnswered { s.cfg with trig := .none } (if s.sstate = .initialized then .initialized else .failed)
      (.error .transportReadError) s) := by
  calc exec .init s
      = .next (initReport s.readAnswer (readFrame (setTrig .none (accept s))).2) := rfl
    _ = .next (raiseError .transportReadError (initFailed (readFrame (setTrig .none (accept s))).2)) := by rw [h]; rfl
    _ = _ := by rw [initFailed_eq]; rfl

theorem exec_readSample_of_ok (hs : s.sstate = .initialized) (h : s.readAnswer = .ok b0 b1 b2) :
    exec .readSample s = .next (frameAnswered (seeded b2 s.cfg.trig) s.sstate (.ok (frameData b0 b1 b2)) s) := by
  calc exec .readSample s
      = .next (readSampleReport s.readAnswer (readFrame (accept s)).2) := exec_of_initialized hs
    _ = .next (frameAnswered (s.cfg.refreshed (decodeByte b2)) s.sstate (.ok (frameData b0 b1 b2)) s) := by rw [h]; rfl
    _ = .next (frameAnswered (seeded b2 s.cfg.trig) s.sstate (.ok (frameData b0 b1 b2)) s) := by rw [refreshed_decodeByte]

theorem exec_readSample_of_err (hs : s.sstate = .initialized) (h : s.readAnswer = .err) :
    exec .readSample s = .next (frameAnswered s.cfg s.sstate (.error .transportReadError) s) := by
  calc exec .readSample s
      = .next (readSampleReport s.readAnswer (readFrame (accept s)).2) := exec_of_initialized hs
    _ = .next (frameAnswered s.cfg s.sstate (.error .transportReadError) s) := by rw [h]; rfl

/-- Settles O15: with a good read INIT does not look at the session state. -/
theorem initSeedsTheShadow : Obligations.InitSeedsTheShadow :=
  fun _ _ _ _ h => ⟨_, exec_init_of_ok h, rfl, rfl, oneRead_frameAnswered, answered_frameAnswered, portsKept_frameAnswered⟩

/-- Settles O16: INIT's failure path writes TRIG and SSTATE alone. -/
theorem failedInitKeepsTheShadow : Obligations.FailedInitKeepsTheShadow :=
  fun _ h => ⟨_, exec_init_of_err h, rfl, rfl, oneRead_frameAnswered, answered_frameAnswered, portsKept_frameAnswered⟩

/-- Settles O18: READ_SAMPLE's failure path writes no register. -/
theorem failedReadSampleChangesNothing : Obligations.FailedReadSampleChangesNothing :=
  fun _ hs h =>
    ⟨_, exec_readSample_of_err hs h, rfl, rfl, oneRead_frameAnswered, answered_frameAnswered, portsKept_frameAnswered⟩

/-! ### The data of a sample (R79, R100, R102) -/

/-- The data as a number: the status above the 16 bits of the value (R79). -/
theorem sampleData_toNat (ds : DataStatus) (v : Int) : (sampleData ds v).toNat = ds.bit.toNat * 65536 + (v % 65536).toNat := by
  rw [sampleData, toNat_append_eq_add, BitVec.toNat_ofInt]
  rfl

/-- Bit 16 of the data is the status. -/
theorem sampleData_status (ds : DataStatus) (v : Int) : (sampleData ds v).toNat / 65536 = ds.bit.toNat := by
  rw [sampleData_toNat]
  omega

/-- Bits 15 to 0 of the data are the value mod 2^16. -/
theorem sampleData_value (ds : DataStatus) (v : Int) : (((sampleData ds v).toNat % 65536 : Nat) : Int) = v % 65536 := by
  rw [sampleData_toNat]
  omega

/-- The data status of a byte is its bit 7 (R65, R72). -/
theorem statusOf_ds_toNat (b : Byte) : (statusOf b).ds.bit.toNat = b.toNat / 128 := by
  have hb : b.toNat < 256 := b.isLt
  by_cases h : b.toNat < 128
  · have hds : (statusOf b).ds = .updated := if_pos h
    rw [hds]
    change 0 = b.toNat / 128
    omega
  · have hds : (statusOf b).ds = .notUpdated := if_neg h
    rw [hds]
    change 1 = b.toNat / 128
    omega

theorem frameData_status (b0 b1 b2 : Byte) : (frameData b0 b1 b2).toNat / 65536 = b2.toNat / 128 := by
  rw [frameData, sampleData_status, decodeByte_eq_statusOf, statusOf_ds_toNat]

/-- The value is read under the sample setting of the frame's own status byte (R95, R102). -/
theorem frameData_value (b0 b1 b2 : Byte) :
    (((frameData b0 b1 b2).toNat % 65536 : Nat) : Int) =
      sampleValue Config.narrow b0 b1 (sampleOf (b2.toNat / 4 % 4)) % 65536 := by
  rw [frameData, sampleData_value, decodeFrame, sampleValueHere_eq, decodeByte_eq_statusOf]
  rfl

/-- Settles O17: the session stays initialized, and the two parts of the data are the status and the value of this frame. -/
theorem readSampleReturnsTheFrame : Obligations.ReadSampleReturnsTheFrame :=
  fun _ b0 b1 b2 hs h =>
    ⟨_, frameData b0 b1 b2, exec_readSample_of_ok hs h, rfl, hs, oneRead_frameAnswered, answered_frameAnswered,
      portsKept_frameAnswered, frameData_status b0 b1 b2, frameData_value b0 b1 b2⟩

/-! ### Local settings are lost (R101) -/

/-- Settles O19: after a good read neither the shadow, TRIG apart, nor the response depends on the state before. -/
theorem successfulReadDiscardsLocalSettings : Obligations.SuccessfulReadDiscardsLocalSettings := by
  rintro s s' i b0 b1 b2 (⟨rfl, hs, hs'⟩ | rfl) h h'
  case inl =>
    exact ⟨_, _, frameData b0 b1 b2, exec_readSample_of_ok hs h, exec_readSample_of_ok hs' h', rfl, rfl, rfl, rfl⟩
  case inr => exact ⟨_, _, 0, exec_init_of_ok h, exec_init_of_ok h', rfl, rfl, rfl, rfl⟩

end Sys2Proof.Machine
end

section
/-! PROOFS. 42_session_write_ops.md: PUSH, the four setters and TRIGGER (R104 to R112), and a getter after a setter (R59(c), R105). The
whole next state of a command that writes is said once, for both answers of the transport (`written`), with one equation for each
command; the claims are read off these. -/

open Sys2Proof Sys2Proof.Machine Sys2Proof.Spec

namespace Sys2Proof.Machine

variable {s : State} {c c' : ShadowConfig} {r : Response}

/-! ### The byte of a push (R104) -/

/-- The model's control byte is the one the tables give (R64, R85). -/
theorem controlByte_eq_controlOf (c : ShadowConfig) : controlByte c = controlOf c := by
  rw [controlOf, ← encodeByte_toNat, BitVec.ofNat_toNat, BitVec.setWidth_eq, controlByte]

theorem controlOf_toNat (c : ShadowConfig) : (controlOf c).toNat = controlNo c.trig c.ch c.mode c.ss c.pga := by
  rw [← controlByte_eq_controlOf, controlByte, encodeByte_toNat]

/-- A trigger is worth bit 7 (R64, R71). -/
theorem controlNo_trigger (ch : Channel) (m : ConversionMode) (ss : SampleSetting) (g : PgaGain) :
    controlNo .trigger ch m ss g = 128 + controlNo .none ch m ss g := by
  simp only [controlNo, triggerNo]
  omega

theorem oneWrite_push (s : State) : OneWrite s.cfg s (push s).2 := by
  refine ⟨?_, rfl, rfl⟩
  rw [← controlByte_eq_controlOf]
  rfl

/-- Settles O20: PUSH is one bus write, and DS has no part in the control byte. -/
theorem pushWritesTheWholeConfigurationOnce : Obligations.PushWritesTheWholeConfigurationOnce :=
  fun s => ⟨_, rfl, rfl, rfl, rfl, oneWrite_push s, rfl, ⟨rfl, rfl⟩, fun _ => rfl⟩

/-! ### The state after the one bus write -/

/-- The response that reports the transport's answer to a push (R106 to R110). -/
def writeResponse (a : WriteAnswer) : Response :=
  match a with
  | .ok => .ok 0
  | .err => .error .transportWriteError

theorem reportWrite_eq_respond (a : WriteAnswer) (s : State) : reportWrite a s = respond (writeResponse a) s := by
  cases a <;> rfl

/-- Where a command that writes leads to: the control byte of `c'` was pushed, CFG is `c`, and the response reports the answer. -/
def written (c c' : ShadowConfig) (s : State) : State :=
  respond (writeResponse s.writeAnswer) (writeCfg (fun _ => c) (push (writeCfg (fun _ => c') (accept s))).2)

theorem wrote_written (h : writeResponse s.writeAnswer = r) : Wrote c c' r s (written c c' s) :=
  ⟨rfl, rfl, oneWrite_push (writeCfg (fun _ => c') (accept s)), ⟨rfl, h ▸ rfl⟩, ⟨rfl, rfl⟩⟩

/-! ### One equation for each command (R106 to R110) -/

/-- A setter pushes the shadow that it leaves. -/
theorem pushAndReport_writeCfg (f : ShadowConfig → ShadowConfig) (s : State) :
    pushAndReport (writeCfg f (accept s)) = written (f s.cfg) (f s.cfg) s :=
  reportWrite_eq_respond _ _

/-- TRIGGER pushes the shadow with the trigger and leaves it without. -/
theorem triggerBody_accept (s : State) :
    triggerBody (accept s) = written { s.cfg with trig := .none } { s.cfg with trig := .trigger } s :=
  reportWrite_eq_respond _ _

theorem exec_setChannel (hs : s.sstate = .initialized) (ch : Channel) :
    exec (.setChannel ch) s = .next (written { s.cfg with ch := ch } { s.cfg with ch := ch } s) :=
  (exec_of_initialized hs).trans (congrArg _ (pushAndReport_writeCfg _ s))

theorem exec_setMode (hs : s.sstate = .initialized) (m : ConversionMode) :
    exec (.setMode m) s = .next (written { s.cfg with mode := m } { s.cfg with mode := m } s) :=
  (exec_of_initialized hs).trans (congrArg _ (pushAndReport_writeCfg _ s))

theorem exec_setSample (hs : s.sstate = .initialized) (ss : SampleSetting) :
    exec (.setSample ss) s = .next (written { s.cfg with ss := ss } { s.cfg with ss := ss } s) :=
  (exec_of_initialized hs).trans (congrArg _ (pushAndReport_writeCfg _ s))

theorem exec_setPga (hs : s.sstate = .initialized) (g : PgaGain) :
    exec (.setPga g) s = .next (written { s.cfg with pga := g } { s.cfg with pga := g } s) :=
  (exec_of_initialized hs).trans (congrArg _ (pushAndReport_writeCfg _ s))

theorem exec_trigger (hs : s.sstate = .initialized) :
    exec .trigger s = .next (written { s.cfg with trig := .none } { s.cfg with trig := .trigger } s) :=
  (exec_of_initialized hs).trans (congrArg _ (triggerBody_accept s))

/-- Settles O21: each setter leaves and pushes the same shadow, and a good write is reported by `Ok(0)`. -/
theorem settersSetOneFieldAndPush : Obligations.SettersSetOneFieldAndPush := by
  intro s hs ha
  have hr : writeResponse s.writeAnswer = .ok 0 := congrArg writeResponse ha
  exact ⟨fun ch => ⟨_, exec_setChannel hs ch, wrote_written hr⟩, fun m => ⟨_, exec_setMode hs m, wrote_written hr⟩,
    fun ss => ⟨_, exec_setSample hs ss, wrote_written hr⟩, fun g => ⟨_, exec_setPga hs g, wrote_written hr⟩⟩

/-- Settles O23: TRIGGER does not look at the mode, and the trigger it pushes is worth 128. -/
theorem triggerIsAPulseInEitherMode : Obligations.TriggerIsAPulseInEitherMode := by
  rintro s m rfl hs ha
  refine ⟨_, exec_trigger hs, wrote_written (congrArg writeResponse ha), ?_⟩
  rw [controlOf_toNat, controlNo_trigger]

/-! ### A getter after a setter (R59(c), R105) -/

/-- A code of `n` bits on `rsp_data`, the other bits 0 (R79). -/
theorem setWidth_eq_ofNat_of_toNat {n k : Nat} {x : BitVec n} (h : x.toNat = k) : x.setWidth 17 = BitVec.ofNat 17 k := by
  rw [← h, BitVec.ofNat_toNat]

theorem exec_getChannel (hs : s.sstate = .initialized) :
    exec .getChannel s = .next (respond (.ok (BitVec.ofNat 17 (channelNo s.cfg.ch))) (accept s)) := by
  rw [← setWidth_eq_ofNat_of_toNat (toNat_channelIndex s.cfg.ch)]
  exact exec_of_initialized hs

theorem exec_getMode (hs : s.sstate = .initialized) :
    exec .getMode s = .next (respond (.ok (BitVec.ofNat 17 (modeNo s.cfg.mode))) (accept s)) := by
  rw [← setWidth_eq_ofNat_of_toNat (toNat_modeBit s.cfg.mode)]
  exact exec_of_initialized hs

theorem exec_getSample (hs : s.sstate = .initialized) :
    exec .getSample s = .next (respond (.ok (BitVec.ofNat 17 (sampleNo s.cfg.ss))) (accept s)) := by
  rw [← setWidth_eq_ofNat_of_toNat (toNat_sampleIndex s.cfg.ss)]
  exact exec_of_initialized hs

theorem exec_getPga (hs : s.sstate = .initialized) :
    exec .getPga s = .next (respond (.ok (BitVec.ofNat 17 (gainNo s.cfg.pga))) (accept s)) := by
  rw [← setWidth_eq_ofNat_of_toNat (toNat_gainIndex s.cfg.pga)]
  exact exec_of_initialized hs

theorem written_sstate (c c' : ShadowConfig) (s : State) : (written c c' s).sstate = s.sstate := rfl

/-- Settles O26: whatever its write is answered, a setter leaves its field set and the session initialized, and the getter answers
from the shadow. -/
theorem getterReturnsTheValueJustSet : Obligations.GetterReturnsTheValueJustSet := by
  intro s hs
  have hinit (c : ShadowConfig) : (written c c s).sstate = .initialized := (written_sstate c c s).trans hs
  exact ⟨fun ch => ⟨_, _, exec_setChannel hs ch, exec_getChannel (hinit _), rfl, rfl⟩,
    fun m => ⟨_, _, exec_setMode hs m, exec_getMode (hinit _), rfl, rfl⟩,
    fun ss => ⟨_, _, exec_setSample hs ss, exec_getSample (hinit _), rfl, rfl⟩,
    fun g => ⟨_, _, exec_setPga hs g, exec_getPga (hinit _), rfl, rfl⟩⟩

end Sys2Proof.Machine
end

section
/-! PROOFS. 43_session_getters.md: the four getters (R113 to R117). What an accepted command changes when it is only answered is said
once, for any response; the getters' own equations are those that the claim of R59(c) rests on. -/

open Sys2Proof Sys2Proof.Machine Sys2Proof.Spec

namespace Sys2Proof.Machine

/-- A command that is accepted and answered with nothing in between changes only the responses (R12, R27). -/
theorem onlyAnswered_respond_accept (r : Response) (s : State) : OnlyAnswered r s (respond r (accept s)) :=
  ⟨rfl, rfl, ⟨rfl, rfl, rfl⟩, ⟨rfl, rfl⟩, ⟨rfl, rfl⟩⟩

/-- Settles O25: in an initialized session a getter is accepted and answered, with the number of its field. -/
theorem gettersReturnTheShadow : Obligations.GettersReturnTheShadow :=
  fun s hs => ⟨⟨_, exec_getChannel hs, onlyAnswered_respond_accept _ s⟩, ⟨_, exec_getMode hs, onlyAnswered_respond_accept _ s⟩,
    ⟨_, exec_getSample hs, onlyAnswered_respond_accept _ s⟩, ⟨_, exec_getPga hs, onlyAnswered_respond_accept _ s⟩⟩

end Sys2Proof.Machine
end

section
/-! PROOFS. 44_unit_converters.md: the unit converters (R118 to R123). The common factor is brought to one fraction once; each converter
divides that fraction by its calibration constant or takes it as it is. -/

open Sys2Proof Sys2Proof.Machine Sys2Proof.Spec

namespace Sys2Proof.Machine

/-- The common factor of R119 in lowest terms. -/
theorem converterFactor_eq (v : Int) : converterFactor v = (v : ℚ) * 256 / 4095875 := by
  unfold converterFactor
  ring

theorem convertDataToVoltage_eq (v : Int) : convertDataToVoltage v = (v : ℚ) * 20480 / 104756099 := by
  rw [convertDataToVoltage, converterFactor_eq]
  ring

theorem convertDataToDischargeCurrent_eq (v : Int) : convertDataToDischargeCurrent v = (v : ℚ) * 256 / 819175 := by
  rw [convertDataToDischargeCurrent, converterFactor_eq]
  ring

/-- Settles O45: the common factor and its two quotients as fractions; the charge formula is the discharge formula (R122), and the
temperature is the common factor itself (R123). -/
theorem convertersAreExactFractions : Obligations.ConvertersAreExactFractions :=
  fun v => ⟨converterFactor_eq v, convertDataToVoltage_eq v, convertDataToDischargeCurrent_eq v, rfl, rfl⟩

end Sys2Proof.Machine
end

section
/-! PROOFS. 60_exceptions.md: refusals and errors (R124 to R137). A refused command and an illegal word are only answered; which errors a
command that is not refused may answer is said once for each report and put together over the commands (`effect_answersWithin`). -/

open Sys2Proof Sys2Proof.Machine Sys2Proof.Spec

namespace Sys2Proof.Machine

variable {s u : State} {i : Instr} {P : ErrorKind → Prop}

/-! ### Refused and only answered (R127, R130), and a write that failed (R126) -/

/-- Settles O2: the word is accepted and only answered, and SSTATE is not looked at. -/
theorem illegalWordIsRefusedInEveryState : Obligations.IllegalWordIsRefusedInEveryState :=
  fun _ _ _ _ h hb hd => ⟨_, (step_command h hb).trans (runWord_of_decode_error hd), onlyAnswered_respond_accept _ _⟩

/-- Settles O27: a refused command is accepted and only answered. -/
theorem commandsBeforeInitAreRefused : Obligations.CommandsBeforeInitAreRefused :=
  fun s _ hs hc hi => ⟨_, exec_of_refused hs hi hc, onlyAnswered_respond_accept _ s⟩

/-- Settles O22: of all that a writing command leaves, the transport's answer decides the response alone. -/
theorem failedWriteIsNotRolledBack : Obligations.FailedWriteIsNotRolledBack := by
  intro s hs ha
  have hr : writeResponse s.writeAnswer = .error .transportWriteError := congrArg writeResponse ha
  exact ⟨fun ch => ⟨_, exec_setChannel hs ch, wrote_written hr⟩, fun m => ⟨_, exec_setMode hs m, wrote_written hr⟩,
    fun ss => ⟨_, exec_setSample hs ss, wrote_written hr⟩, fun g => ⟨_, exec_setPga hs g, wrote_written hr⟩,
    _, exec_trigger hs, wrote_written hr⟩

/-! ### The errors of a command (R131) -/

/-- One response was given between `s` and `t`, and if it is an error, `P` holds of its kind. -/
def AnswersWithin (P : ErrorKind → Prop) (s t : State) : Prop :=
  ∃ r, t.responses = s.responses ++ [r] ∧ ∀ k, r = .error k → P k

theorem answersWithin_respond_ok (h : u.responses = s.responses) (x : RspData) : AnswersWithin P s (respond (.ok x) u) :=
  ⟨.ok x, congrArg (· ++ [_]) h, nofun⟩

theorem answersWithin_respond_error {k : ErrorKind} (h : u.responses = s.responses) (hk : P k) :
    AnswersWithin P s (respond (.error k) u) :=
  ⟨.error k, congrArg (· ++ [_]) h, fun _ hr => Response.error.inj hr ▸ hk⟩

/-- INIT fails with `TransportReadError` only (R99, R125). -/
theorem answersWithin_initReport (hP : P .transportReadError) (h : u.responses = s.responses) (a : ReadAnswer) :
    AnswersWithin P s (initReport a u) := by
  cases a with
  | ok b0 b1 b2 => exact answersWithin_respond_ok (u := setSession .initialized (refresh b2 u)) h 0
  | err =>
    have hfail : (initFailed u).responses = s.responses := by rw [initFailed_eq]; exact h
    exact answersWithin_respond_error hfail hP

/-- READ_SAMPLE fails with `TransportReadError` only (R100, R125). -/
theorem answersWithin_readSampleReport (hP : P .transportReadError) (h : u.responses = s.responses) (a : ReadAnswer) :
    AnswersWithin P s (readSampleReport a u) := by
  cases a with
  | ok b0 b1 b2 => exact answersWithin_respond_ok (u := refresh b2 u) h _
  | err => exact answersWithin_respond_error h hP

/-- A writing command fails with `TransportWriteError` only (R126). -/
theorem answersWithin_reportWrite (hP : P .transportWriteError) (h : u.responses = s.responses) (a : WriteAnswer) :
    AnswersWithin P s (reportWrite a u) := by
  cases a with
  | ok => exact answersWithin_respond_ok h 0
  | err => exact answersWithin_respond_error h hP

/-- A command that is not refused answers within its row of R131, and never `NotInitialized`. -/
theorem effect_answersWithin (s : State) (hc : i.isHostCommand = true) :
    AnswersWithin (fun k => mayRaise i k = true ∧ k ≠ .notInitialized) s (effect i s) := by
  cases i with
  | init => exact answersWithin_initReport ⟨rfl, nofun⟩ rfl _
  | readSample => exact answersWithin_readSampleReport ⟨rfl, nofun⟩ rfl _
  | setChannel | setMode | setSample | setPga | trigger => exact answersWithin_reportWrite ⟨rfl, nofun⟩ rfl _
  | getChannel | getMode | getSample | getPga => exact answersWithin_respond_ok (u := accept s) rfl _
  | codecEncode | codecDecode => cases hc

/-- Every command but INIT may be refused (R127, R131). -/
theorem mayRaise_notInitialized (hc : i.isHostCommand = true) (hi : i ≠ .init) : mayRaise i .notInitialized = true := by
  simp [mayRaise, hc, hi]

/-- Settles O28: a refused command answers `NotInitialized` and is not INIT; any other has its effect, which never answers it. -/
theorem eachCommandEndsOnlyWithItsOwnErrors : Obligations.EachCommandEndsOnlyWithItsOwnErrors := by
  intro s t i hc h
  obtain ⟨hs, hi, -, rfl⟩ | ⟨hrun, rfl⟩ := exec_cases h
  · refine answersWithin_respond_error (u := accept s) rfl ⟨mayRaise_notInitialized hc hi, ?_⟩
    exact iff_of_true rfl ⟨hs, hi⟩
  · obtain ⟨r, hr, hkinds⟩ := effect_answersWithin s hc
    have hnot : ¬(s.sstate ≠ .initialized ∧ i ≠ .init) := by
      rintro ⟨hs, hi⟩
      simp [hs, hi, hc] at hrun
    refine ⟨r, hr, fun k hk => ?_⟩
    obtain ⟨hmay, hne⟩ := hkinds k hk
    exact ⟨hmay, iff_of_false hne hnot⟩

/-! ### Nothing stops the machine (R132) -/

/-- An operation is a command, which completes, or a codec function, which is never refused. -/
theorem exec_total (i : Instr) (s : State) : ∃ t, exec i s = .next t := by
  cases hc : i.isHostCommand with
  | true =>
    obtain ⟨t, hrun, -⟩ := exec_completes (s := s) hc
    exact ⟨t, hrun⟩
  | false => exact ⟨_, exec_of_not_refused (.inr (.inr hc))⟩

/-- A step, by what stands first at the inputs: a word completes, abandoned by reset or not. -/
theorem step_total (s : State) : ∃ t, step s = .next t := by
  cases hin : s.inputs with
  | nil => exact ⟨s, step_idle hin⟩
  | cons p rest =>
    cases p with
    | command w =>
      cases hb : s.busy with
      | true => exact ⟨s, step_command_of_busy hin hb⟩
      | false =>
        obtain ⟨t, hrun, -⟩ := runWord_completes w { s with inputs := rest }
        exact ⟨t, (step_command hin hb).trans hrun⟩
    | resetDuring w issued =>
      cases hb : s.busy with
      | true => exact ⟨_, step_resetDuring_of_busy hin hb⟩
      | false =>
        obtain ⟨t, hrun, -⟩ := runWord_completes w { s with inputs := rest }
        exact ⟨_, step_resetDuring hin hb hrun⟩
    | reset | encode | decode | sampleValue => exact ⟨_, step_input hin⟩

/-- Settles O29: no operation has an outcome but a next state, and a step only takes an input, runs a word or resets. -/
theorem nothingStopsTheMachine : Obligations.NothingStopsTheMachine := ⟨exec_total, step_total⟩

end Sys2Proof.Machine
end

section
/-! PROOFS. 70_reset_and_hazards.md: the reset input (R146, R148, R149), and that `Uninitialized` and `Failed` look the same on the
ports (R167). For the latter one state is the other with SSTATE overwritten, and each function a step calls is taken in turn. -/

open Sys2Proof Sys2Proof.Machine Sys2Proof.Spec

namespace Sys2Proof.Machine

variable {s t u v : State} {w : Byte} {x : SessionState}

/-! ### The reset input -/

/-- Settles O38: the reset input is taken, and only the registers are written. -/
theorem resetInputSendsNothing : Obligations.ResetInputSendsNothing :=
  fun _ _ h => ⟨_, step_input h, rfl, rfl, rfl, ⟨rfl, rfl, rfl⟩, rfl, rfl, rfl⟩

/-- Settles O39: the word runs as it would without the reset, and of its effects only the bus request is kept, if it was issued. -/
theorem resetAbandonsTheCommandInProgress : Obligations.ResetAbandonsTheCommandInProgress := by
  intro s u w issued rest hin hb hu
  have hrun : runWord w { s with inputs := rest } = .next u :=
    (step_command (s := { s with inputs := .command w :: rest }) rfl hb).symm.trans hu
  refine ⟨_, step_resetDuring hin hb hrun, ?_⟩
  cases issued with
  | true => exact ⟨rfl, rfl, rfl, rfl, rfl, rfl⟩
  | false => exact ⟨rfl, rfl, rfl, rfl, rfl, rfl⟩

/-! ### `Uninitialized` or `Failed`: one state is the other with SSTATE overwritten -/

/-- `x` may stand in SSTATE of `s` and look the same: both or neither are `Initialized`. -/
def Alike (s : State) (x : SessionState) : Prop := s.sstate = .initialized ↔ x = .initialized

theorem sameButFailed_setSession (h : Alike s x) : SameButFailed s (setSession x s) :=
  ⟨rfl, h, rfl, rfl, rfl, rfl, rfl, rfl, rfl, rfl⟩

theorem sameButFailed_refl (s : State) : SameButFailed s s := sameButFailed_setSession (x := s.sstate) Iff.rfl

/-- The relation of R167(d) is a write of SSTATE that looks the same, and nothing else. -/
theorem exists_alike (h : SameButFailed s t) : ∃ x, t = setSession x s ∧ Alike s x := by
  obtain ⟨hcfg, hss, hb, hin, hra, hwa, hd, htr, hre, hco⟩ := h
  refine ⟨t.sstate, ?_, hss⟩
  rw [setSession, hcfg, hb, hin, hra, hwa, hd, htr, hre, hco]

/-- In an initialized session there is nothing to overwrite. -/
theorem Alike.setSession_eq (h : Alike s x) (hs : s.sstate = .initialized) : setSession x s = s := by
  rw [h.mp hs, ← hs]
  rfl

/-! ### The functions a step calls, on two such states -/

/-- Both outcomes are next states, which differ at most in whether SSTATE is `Uninitialized` or `Failed`. -/
def NextAlike (o o' : Host.Outcome State Fault Refusal) : Prop := ∃ s' t', o = .next s' ∧ o' = .next t' ∧ SameButFailed s' t'

theorem nextAlike_next (h : SameButFailed s t) : NextAlike (.next s) (.next t) := ⟨s, t, rfl, rfl, h⟩

/-- A command that is only answered. -/
theorem sameButFailed_respond_accept (h : Alike s x) (r : Response) :
    SameButFailed (respond r (accept s)) (respond r (accept (setSession x s))) :=
  sameButFailed_setSession (s := respond r (accept s)) h

theorem sameButFailed_codecEmit (h : Alike s x) (o : CodecOutput) :
    SameButFailed (codecEmit o s) (codecEmit o (setSession x s)) :=
  sameButFailed_setSession (s := codecEmit o s) h

/-- INIT's failure path leads to `Failed` from either state (R99). -/
theorem initFailed_setSession (h : Alike s x) : initFailed (setSession x s) = initFailed s := by
  simp only [initFailed_eq, setSession_sstate, propext h]
  rfl

/-- INIT writes SSTATE whatever the transport answers, so the difference is gone after it (R99). -/
theorem initReport_setSession (h : Alike s x) (a : ReadAnswer) : initReport a (setSession x s) = initReport a s := by
  cases a with
  | ok b0 b1 b2 => rfl
  | err => exact congrArg (raiseError .transportReadError) (initFailed_setSession h)

theorem initBody_accept_setSession (h : Alike s x) : initBody (accept (setSession x s)) = initBody (accept s) :=
  initReport_setSession (s := (readFrame (setTrig .none (accept s))).2) h s.readAnswer

/-- Before a successful INIT an operation is INIT or a codec function, which do not look at SSTATE, or it is refused (R127). -/
theorem nextAlike_exec (i : Instr) (h : Alike s x) : NextAlike (exec i s) (exec i (setSession x s)) := by
  by_cases hs : s.sstate = .initialized
  · rw [h.setSession_eq hs, exec_of_initialized hs]
    exact nextAlike_next (sameButFailed_refl _)
  have hx : x ≠ .initialized := mt h.mpr hs
  cases i with
  | init => exact ⟨_, _, rfl, congrArg Host.Outcome.next (initBody_accept_setSession h), sameButFailed_refl _⟩
  | codecEncode | codecDecode => exact nextAlike_next (sameButFailed_codecEmit h _)
  | _ => exact ⟨_, _, exec_of_refused hs nofun rfl, exec_of_refused hx nofun rfl, sameButFailed_respond_accept h _⟩

theorem nextAlike_runWord (w : Byte) (h : Alike s x) : NextAlike (runWord w s) (runWord w (setSession x s)) := by
  cases hd : decode w with
  | ok i =>
    rw [runWord_of_decode_ok hd, runWord_of_decode_ok hd]
    exact nextAlike_exec i h
  | error e => exact ⟨_, _, runWord_of_decode_error hd, runWord_of_decode_error hd, sameButFailed_respond_accept h _⟩

/-- Reset overwrites SSTATE (R146). -/
@[simp] theorem resetRegisters_setSession (x : SessionState) (s : State) : resetRegisters (setSession x s) = resetRegisters s := rfl

/-- An abandoned command leaves its ports and the registers of reset, so nothing of SSTATE (R148). -/
theorem abandoned_setSession (issued : Bool) (h : SamePorts u v) : abandoned issued (setSession x s) v = abandoned issued s u := by
  obtain ⟨-, -, hra, hwa, hd, htr, -, -⟩ := h
  cases issued with
  | true => rw [abandoned, abandoned, hra, hwa, hd, htr]; rfl
  | false => rfl

theorem nextAlike_offerWord (w : Byte) (hs : Alike s x) (hu : Alike u x) :
    NextAlike (offerWord w s u) (offerWord w (setSession x s) (setSession x u)) := by
  cases hb : s.busy with
  | true => simpa [offerWord, hb] using nextAlike_next (sameButFailed_setSession hs)
  | false => simpa [offerWord, hb] using nextAlike_runWord w hu

theorem nextAlike_offerWordThenReset (w : Byte) (issued : Bool) (h : Alike s x) :
    NextAlike (offerWordThenReset w issued s) (offerWordThenReset w issued (setSession x s)) := by
  cases hb : s.busy with
  | true => simpa [offerWordThenReset, hb] using nextAlike_next (sameButFailed_refl (resetRegisters s))
  | false =>
    obtain ⟨s', t', hs', ht', -, -, hports⟩ := nextAlike_runWord w h
    rw [offerWordThenReset_of_ready hb hs', offerWordThenReset_of_ready (s := setSession x s) hb ht', abandoned_setSession issued hports]
    exact nextAlike_next (sameButFailed_refl _)

theorem nextAlike_takeInput (p : PortInput) (hs : Alike s x) (hu : Alike u x) :
    NextAlike (takeInput p s u) (takeInput p (setSession x s) (setSession x u)) := by
  cases p with
  | command w => exact nextAlike_offerWord w hs hu
  | reset => exact nextAlike_next (sameButFailed_refl _)
  | resetDuring w issued => exact nextAlike_offerWordThenReset w issued hu
  | encode | decode | sampleValue => exact nextAlike_next (sameButFailed_codecEmit hu _)

/-- Settles O43: the two states differ by a write of SSTATE that looks the same, and what a step does with its input keeps it so. -/
theorem failedLooksLikeUninitialized : Obligations.FailedLooksLikeUninitialized := by
  intro s t hst
  obtain ⟨x, rfl, h⟩ := exists_alike hst
  cases hin : s.inputs with
  | nil => exact ⟨_, _, step_idle hin, step_idle hin, hst⟩
  | cons p rest =>
    rw [step_input hin, step_input (s := setSession x s) hin]
    exact nextAlike_takeInput p h h

end Sys2Proof.Machine
end
